-- ==== Sys2Proof/Word.lean ====
section
/-! DEFINITION. The byte of the hub's frames and SPI transactions, and the sizes the manual fixes once
(spec/01 to spec/12). Quantities of the records are Nat or Int, or a bit vector where the manual says that they wrap. -/
namespace Sys2Proof

/-- One byte on a link or on the SPI port (R178). -/
abbrev Byte := BitVec 8

/-- Shaft number, S0 to S3 (R1). -/
abbrev ShaftId := Fin 4

/-- Fibre port number, P0 to P5 (R160). -/
abbrev PortId := Fin 6

/-- A 16-bit counter that wraps from 65,535 to 0: repeat counter, cycle number, firing sequence (R19). -/
abbrev Count16 := BitVec 16

/-- A position that wraps modulo 2^32: W, X and Y (R19). -/
abbrev Position := BitVec 32

/-- The master angle, which wraps modulo 1,048,576 = 2^20 (R19). -/
abbrev Angle := BitVec 20

end Sys2Proof
end

