-- ==== Sys2Proof/Config.lean ====
section
/-! DEFINITION. The values the manual leaves open while the hub goes on. Each is a constant with no body, so nothing
can be proved of it but what holds for every value. -/
namespace Sys2Proof

/-- FREE VALUE (notes/assumptions/3.md). The time left on a running hold timer when a console is read (R118): the
model has no clock, so the step reduces this value modulo the limit the timer was started with, plus one. -/
opaque Config.freeHoldTime : Nat → Nat

/-- FREE VALUE (notes/assumptions/4.md). A byte the hub clocks out during READ REPLY after the last byte of the reply,
which R183 does not state. -/
opaque Config.freeByte : Nat → Byte

end Sys2Proof
end

