-- ==== Sys2Proof/Syntax.lean ====
section
/-! DEFINITION. The commands of the hub: one constructor of `Instr` per row of spec/opcode_table.json, with the operands
that the row's frame, request body, SPI transaction or pin event carries (spec/12, R179 to R184). -/
namespace Sys2Proof

/-- Rights of a requester (R93, R180), lowest first. -/
inductive Rights | viewer | operator | setter | line
deriving DecidableEq, Repr

/-- Category of a trip definition (R58). -/
inductive Category | ramp | quick | halt
deriving DecidableEq, Repr

/-- Scope of a trip definition, with its unit or shaft number (R58). -/
inductive Scope
  | source
  | unit (u : Nat)
  | shaft (s : Nat)
  | all
deriving DecidableEq, Repr

/-- The scope code of a field item, without its number (R180). -/
inductive ScopeKind | source | unit | shaft | all
deriving DecidableEq, Repr

/-- Source kind of a trip definition with its parameters (R58). -/
inductive SourceSpec
  | line (n : Nat)
  | station (port station code : Nat)
  | lag
  | loss
  | link (port : Nat)
  | catchall
deriving DecidableEq, Repr

/-- The source kind code of a field item (R180). -/
inductive SourceKind | line | station | lag | loss | link | catchall
deriving DecidableEq, Repr

/-- Record kinds of requests (R181). -/
inductive RecKind | axis | unit | shaft | definition | trigger | view | console | port | hub
deriving DecidableEq, Repr

/-- A control point as a request names it: kind and number (R86). -/
inductive ControlPoint
  | unit (n : Nat)
  | shaft (n : Nat)
deriving DecidableEq, Repr

/-- State of a view (R114). -/
inductive ViewState | active | paused
deriving DecidableEq, Repr

/-- Who sends a request (R147): the line computer, whose request WRITE REQUEST has handed to the request unit, or the
station of a port, in a REQUEST frame. -/
inductive Origin
  | line
  | console (port : PortId) (station : Nat)
deriving DecidableEq, Repr

/-- The named fields of AMEND SHAFT (R12). -/
structure ShaftFields where
  period    : Option Nat
  vMax      : Option Nat
  acc       : Option Nat
  dn        : Option Nat
  dq        : Option Nat
  inchLimit : Option Nat
deriving DecidableEq, Repr

/-- The fields ENROL AXIS carries (R33, R34). -/
structure AxisEnrol where
  shaft    : Nat
  unit     : Nat
  port     : Nat
  station  : Nat
  channel  : Nat
  gearN    : Int
  shift    : Nat
  slew     : Nat
  lagLimit : Nat
  window   : Nat
  lagDef   : Nat
  lossDef  : Nat
deriving DecidableEq, Repr

/-- The named fields of AMEND AXIS (R36). -/
structure AxisFields where
  shaft    : Option Nat
  unit     : Option Nat
  gearN    : Option Int
  shift    : Option Nat
  slew     : Option Nat
  trim     : Option Int
  lagLimit : Option Nat
  window   : Option Nat
  lagDef   : Option Nat
  lossDef  : Option Nat
  port     : Option Nat
  station  : Option Nat
  channel  : Option Nat
deriving DecidableEq, Repr

/-- The named fields of AMEND DEFINITION (R60): the scope and its number, and the source kind and its parameters, are
separate field items (R181). -/
structure DefFields where
  port      : Option Nat
  station   : Option Nat
  kind      : Option SourceKind
  line      : Option Nat
  code      : Option Nat
  scope     : Option ScopeKind
  scopeNum  : Option Nat
  category  : Option Category
  maskable  : Option Bool
deriving DecidableEq, Repr

/-- The fields ENROL TRIGGER carries (R102). -/
structure TriggerEnrol where
  shaft   : Nat
  port    : Nat
  station : Nat
  angle   : Nat
  divider : Nat
  enabled : Bool
deriving DecidableEq, Repr

/-- The named fields of AMEND TRIGGER (R103). -/
structure TriggerFields where
  shaft   : Option Nat
  port    : Option Nat
  station : Option Nat
  angle   : Option Nat
  divider : Option Nat
  enabled : Option Bool
deriving DecidableEq, Repr

/-- The fields ENROL VIEW carries; a console may leave the owner out (R115). -/
structure ViewEnrol where
  owner     : Option Nat
  trigger   : Nat
  firstTile : Nat
  lastTile  : Nat
  state     : ViewState
deriving DecidableEq, Repr

/-- The named fields of AMEND VIEW (R116). -/
structure ViewFields where
  owner     : Option Nat
  trigger   : Option Nat
  firstTile : Option Nat
  lastTile  : Option Nat
  state     : Option ViewState
deriving DecidableEq, Repr

/-- The fields ENROL CONSOLE carries; the marks may be left out (R142). -/
structure ConsoleEnrol where
  port    : Nat
  station : Nat
  rights  : Rights
  high    : Option Nat
  low     : Option Nat
deriving DecidableEq, Repr

/-- The named fields of AMEND CONSOLE (R143). -/
structure ConsoleFields where
  port    : Option Nat
  station : Option Nat
  rights  : Option Rights
  high    : Option Nat
  low     : Option Nat
deriving DecidableEq, Repr

/-- The named fields of AMEND HUB; `failed` is the condition item, which is always refused (R172). -/
structure HubFields where
  holdLimit : Option Nat
  watchBand : Option Nat
  grace     : Option Nat
  failed    : Option Bool
deriving DecidableEq, Repr

/-- One entry of a FEEDBACK frame (R51, R179). -/
structure FbEntry where
  channel : Nat
  y       : Position
  e       : Int
deriving DecidableEq, Repr

/-- The commands: one constructor per row of spec/opcode_table.json. A request carries its origin and its tag (R147). -/
inductive Instr
  /-- CYCLE_EVENT (R3): expiry of a shaft's cycle timer. -/
  | cycleEvent (sh : ShaftId)
  /-- RUN (R6). -/
  | run (o : Origin) (tag shaft : Nat) (speed : Int)
  /-- SPEED (R7). -/
  | speed (o : Origin) (tag shaft : Nat) (speed : Int)
  /-- STOP (R8). -/
  | stop (o : Origin) (tag shaft : Nat)
  /-- INCH (R9). -/
  | inch (o : Origin) (tag shaft : Nat) (speed : Int) (repeats : Nat)
  /-- AMEND_SHAFT (R12). -/
  | amendShaft (o : Origin) (tag shaft : Nat) (f : ShaftFields)
  /-- ENROL_AXIS (R34). -/
  | enrolAxis (o : Origin) (tag : Nat) (f : AxisEnrol)
  /-- AMEND_AXIS (R36). -/
  | amendAxis (o : Origin) (tag axis : Nat) (f : AxisFields)
  /-- AMEND_AXIS_AWAIT (R38): AMEND AXIS with the AWAIT flag. -/
  | amendAxisAwait (o : Origin) (tag axis : Nat) (f : AxisFields)
  /-- ENGAGE (R47). -/
  | engage (o : Origin) (tag axis : Nat)
  /-- RELEASE (R48). -/
  | release (o : Origin) (tag axis : Nat)
  /-- RETIRE_AXIS (R50). -/
  | retireAxis (o : Origin) (tag axis : Nat)
  /-- FEEDBACK (R51): a FEEDBACK frame of a station. -/
  | feedback (port : PortId) (station : Nat) (entries : List FbEntry)
  /-- ENROL_DEFINITION (R59). -/
  | enrolDefinition (o : Origin) (tag : Nat) (src : SourceSpec) (scope : Scope) (cat : Category) (maskable : Bool)
  /-- AMEND_DEFINITION (R60). -/
  | amendDefinition (o : Origin) (tag index : Nat) (f : DefFields)
  /-- RETIRE_DEFINITION (R61). -/
  | retireDefinition (o : Origin) (tag index : Nat)
  /-- RAISE_TRIP (R63): a TRIP frame with action RAISE. -/
  | raiseTrip (port : PortId) (station code : Nat)
  /-- DROP_TRIP (R63): a TRIP frame with action DROP. -/
  | dropTrip (port : PortId) (station code : Nat)
  /-- TRIP_LINE_CHANGE (R62): a TRIPIN input goes to its trip level (true) or to rest (false). -/
  | tripLineChange (line : Fin 8) (trip : Bool)
  /-- INHIBIT_ASSERTED (R68). -/
  | inhibitAsserted
  /-- INHIBIT_RELEASED (R69). -/
  | inhibitReleased
  /-- ACKNOWLEDGE (R78) of one definition. -/
  | acknowledge (o : Origin) (tag index : Nat)
  /-- ACKNOWLEDGE_ALL (R79). -/
  | acknowledgeAll (o : Origin) (tag : Nat)
  /-- ENROL_UNIT (R88). -/
  | enrolUnit (o : Origin) (tag unit shaft : Nat)
  /-- AMEND_UNIT (R89). -/
  | amendUnit (o : Origin) (tag unit shaft : Nat)
  /-- RETIRE_UNIT (R90). -/
  | retireUnit (o : Origin) (tag unit : Nat)
  /-- GRANT (R92). -/
  | grant (o : Origin) (tag : Nat) (cp : ControlPoint)
  /-- YIELD (R94). -/
  | yield (o : Origin) (tag : Nat) (cp : ControlPoint)
  /-- ENROL_TRIGGER (R102). -/
  | enrolTrigger (o : Origin) (tag : Nat) (f : TriggerEnrol)
  /-- AMEND_TRIGGER (R103). -/
  | amendTrigger (o : Origin) (tag trigger : Nat) (f : TriggerFields)
  /-- RETIRE_TRIGGER (R106). -/
  | retireTrigger (o : Origin) (tag trigger : Nat)
  /-- ENROL_VIEW (R115). -/
  | enrolView (o : Origin) (tag : Nat) (f : ViewEnrol)
  /-- AMEND_VIEW (R116). -/
  | amendView (o : Origin) (tag view : Nat) (f : ViewFields)
  /-- RETIRE_VIEW (R117). -/
  | retireView (o : Origin) (tag view : Nat)
  /-- TILE (R119): a TILE frame of a camera station. -/
  | tile (port : PortId) (station trigger : Nat) (seq : Count16) (index : Nat) (last : Bool) (payload : List Byte)
  /-- HOLD (R124). -/
  | hold (port : PortId) (station : Nat)
  /-- GO (R125). -/
  | go (port : PortId) (station : Nat)
  /-- HOLD_TIMER_EXPIRY (R126): the hold timer of a console runs out. -/
  | holdTimerExpiry (console : Nat)
  /-- WATCH (R134). -/
  | watch (o : Origin) (tag axis : Nat)
  /-- UNWATCH (R135). -/
  | unwatch (o : Origin) (tag axis : Nat)
  /-- ENROL_CONSOLE (R142). -/
  | enrolConsole (o : Origin) (tag : Nat) (f : ConsoleEnrol)
  /-- AMEND_CONSOLE (R143). -/
  | amendConsole (o : Origin) (tag console : Nat) (f : ConsoleFields)
  /-- RETIRE_CONSOLE (R144). -/
  | retireConsole (o : Origin) (tag console : Nat)
  /-- READ (R147, R182). -/
  | read (o : Origin) (tag : Nat) (kind : RecKind) (id : Nat)
  /-- STATUS (R157). -/
  | status (o : Origin) (tag : Nat)
  /-- RESTART (R158). -/
  | restart (o : Origin) (tag : Nat)
  /-- AMEND_HUB (R172). -/
  | amendHub (o : Origin) (tag : Nat) (f : HubFields)
  /-- READ_STATUS (R155): an SPI transaction with `clocked` further bytes. -/
  | readStatus (clocked : Nat)
  /-- READ_REPLY (R183): an SPI transaction in which `clocked` bytes are clocked out after the status. -/
  | readReply (clocked : Nat)
  /-- LIGHT (R162). -/
  | light (port : PortId)
  /-- LOSS_OF_LIGHT (R162). -/
  | lossOfLight (port : PortId)
  /-- BAD_FRAME (R161, R162). -/
  | badFrame (port : PortId)
  /-- IDLE (R165). -/
  | idle (port : PortId) (station : Nat)
  /-- UNKNOWN_KIND_FRAME (R165): a good frame as its bytes give it, for the frames that no other row stands for. -/
  | unknownKindFrame (port : PortId) (station kind : Nat) (payload : List Byte)
  /-- TRANSMITTER_FREE (R166): the sending of a frame ends on a port. -/
  | transmitterFree (port : PortId)
  /-- RESET_ASSERTED (R177). -/
  | resetAsserted
  /-- RESET_RELEASED (R177). -/
  | resetReleased
  /-- WRITE_REQUEST (R155, R183): the bytes the line computer writes after the command byte. -/
  | writeRequest (bytes : List Byte)
deriving DecidableEq, Repr

end Sys2Proof
end

