-- ==== Sys2Proof/Decode.lean ====
section
/-! DEFINITION. From bytes to commands: byte order (R178), frames and their CRC (R161, R179), codes (R180), request bodies
(R181), and the encoders written from the same tables. `decodeTableWord` is the host's: no row of the opcode table gives
bits, so it reads no command from any word. -/
namespace Sys2Proof

/-- No row of spec/opcode_table.json has bits (`"fields": []`, no mask), so no word spells a command. -/
def decodeTableWord (_nbits _w : Nat) : Option Instr := none

/-! ### Byte order (R178) -/

/-- `n` bytes of `v`, least significant byte first. -/
def leBytes : Nat → Nat → List Byte
  | 0, _ => []
  | n + 1, v => BitVec.ofNat 8 v :: leBytes n (v / 256)

/-- `n` bytes of a signed or unsigned value, two's complement, least significant byte first. -/
def leSigned (n : Nat) (v : Int) : List Byte := leBytes n (v % (256 ^ n : Nat)).toNat

/-- The number that bytes sent least significant first stand for. -/
def ofLe : List Byte → Nat
  | [] => 0
  | b :: bs => b.toNat + 256 * ofLe bs

/-- A 4-byte value read as two's complement. -/
def signed32 (n : Nat) : Int := if n < 2147483648 then (n : Int) else (n : Int) - 4294967296

/-- A set-or-clear byte: 00h or 01h. -/
def boolByte (b : Bool) : Byte := if b then 1 else 0

/-! ### Frames (R161, R179) -/

/-- One bit of the CRC-32 register, least significant bit first: generator 04C11DB7h in the register's own bit order
(notes/assumptions/6.md). -/
def crcBit (c : BitVec 32) : BitVec 32 := if c.getLsbD 0 then (c >>> 1) ^^^ 0xEDB88320#32 else c >>> 1

/-- One byte fed into the CRC-32 register (R179). -/
def crcByte (c : BitVec 32) (b : Byte) : BitVec 32 :=
  crcBit (crcBit (crcBit (crcBit (crcBit (crcBit (crcBit (crcBit (c ^^^ b.setWidth 32))))))))

/-- CRC-32 of a frame's bytes: start FFFFFFFFh, final register inverted (R179). -/
def crc32 (bs : List Byte) : BitVec 32 := ~~~ (bs.foldl crcByte 0xFFFFFFFF#32)

/-- The longest payload of any frame kind (R179). -/
def longestPayload : Nat := 1029

/-- Bytes 0 to 3 + n of a frame: kind, station, payload length, payload (R179). -/
def frameHead (kind station : Nat) (payload : List Byte) : List Byte :=
  BitVec.ofNat 8 kind :: BitVec.ofNat 8 station :: (leBytes 2 payload.length ++ payload)

/-- A whole frame with its CRC-32 (R179). -/
def frameBytes (kind station : Nat) (payload : List Byte) : List Byte :=
  frameHead kind station payload ++ leBytes 4 (crc32 (frameHead kind station payload)).toNat

/-- Split received bytes into kind, station, payload and CRC when the header's length agrees with what was received
(R161, R179). -/
def splitFrame (bs : List Byte) : Option (Nat × Nat × List Byte × Nat) :=
  match bs with
  | k :: st :: l0 :: l1 :: rest =>
    if rest.length = ofLe [l0, l1] + 4 ∧ ofLe [l0, l1] ≤ longestPayload then
      some (k.toNat, st.toNat, rest.take (ofLe [l0, l1]), ofLe (rest.drop (ofLe [l0, l1])))
    else none
  | _ => none

/-- The kind, station and payload of a good frame, none for a bad one (R161). A code group the line code does not allow
is not visible in bytes: the BAD_FRAME command stands for it. -/
def goodFrame (bs : List Byte) : Option (Nat × Nat × List Byte) :=
  match splitFrame bs with
  | some (k, st, payload, crc) =>
    if crc = (crc32 (bs.take (4 + payload.length))).toNat then some (k, st, payload) else none
  | none => none

/-! ### Codes (R180, R181) -/

/-- Record kind codes (R181). -/
def recKindCode : RecKind → Nat
  | .axis => 1 | .unit => 2 | .shaft => 3 | .definition => 4 | .trigger => 5
  | .view => 6 | .console => 7 | .port => 8 | .hub => 9

/-- Record kind of a code (R181). -/
def recKindOf : Nat → Option RecKind
  | 1 => some .axis | 2 => some .unit | 3 => some .shaft | 4 => some .definition | 5 => some .trigger
  | 6 => some .view | 7 => some .console | 8 => some .port | 9 => some .hub | _ => none

/-- Rights codes (R180). -/
def rightsCode : Rights → Nat
  | .viewer => 1 | .operator => 2 | .setter => 3 | .line => 4

/-- Rights of a code (R180). -/
def rightsOfCode : Nat → Option Rights
  | 1 => some .viewer | 2 => some .operator | 3 => some .setter | 4 => some .line | _ => none

/-- Category codes (R180). -/
def categoryCode : Category → Nat
  | .ramp => 1 | .quick => 2 | .halt => 3

/-- Category of a code; code 0, NONE, is no category (R180). -/
def categoryOf : Nat → Option Category
  | 1 => some .ramp | 2 => some .quick | 3 => some .halt | _ => none

/-- Source kind codes (R180). -/
def sourceKindCode : SourceKind → Nat
  | .line => 1 | .station => 2 | .lag => 3 | .loss => 4 | .link => 5 | .catchall => 6

/-- Source kind of a code (R180). -/
def sourceKindOf : Nat → Option SourceKind
  | 1 => some .line | 2 => some .station | 3 => some .lag | 4 => some .loss | 5 => some .link | 6 => some .catchall | _ => none

/-- Scope codes (R180). -/
def scopeCode : ScopeKind → Nat
  | .source => 0 | .unit => 1 | .shaft => 2 | .all => 3

/-- Scope of a code (R180). -/
def scopeOf : Nat → Option ScopeKind
  | 0 => some .source | 1 => some .unit | 2 => some .shaft | 3 => some .all | _ => none

/-- View state codes (R180). -/
def viewStateCode : ViewState → Nat
  | .paused => 0 | .active => 1

/-- View state of a code (R180). -/
def viewStateOf : Nat → Option ViewState
  | 0 => some .paused | 1 => some .active | _ => none

/-- A set-or-clear value (R178). -/
def boolOf : Nat → Option Bool
  | 0 => some false | 1 => some true | _ => none

/-- The kind of a source, without its parameters. -/
def SourceSpec.kind : SourceSpec → SourceKind
  | .line _ => .line | .station _ _ _ => .station | .lag => .lag | .loss => .loss | .link _ => .link | .catchall => .catchall

/-- The kind of a scope, without its number. -/
def Scope.kind : Scope → ScopeKind
  | .source => .source | .unit _ => .unit | .shaft _ => .shaft | .all => .all

/-! ### Field items (R181) -/

/-- Size in bytes of a field item, none where the code does not belong to the record kind (R181). -/
def fieldSize : RecKind → Nat → Option Nat
  | .shaft, c => match c with
    | 0x01 => some 2 | 0x02 => some 4 | 0x03 => some 2 | 0x04 => some 2 | 0x05 => some 2 | 0x06 => some 4
    | 0x07 => some 4 | 0x08 => some 1 | _ => none
  | .axis, c => match c with
    | 0x10 => some 1 | 0x11 => some 1 | 0x12 => some 1 | 0x13 => some 1 | 0x14 => some 1 | 0x15 => some 4 | 0x16 => some 1
    | 0x17 => some 4 | 0x18 => some 4 | 0x19 => some 1 | 0x1A => some 4 | 0x1B => some 2 | 0x1C => some 1 | 0x1D => some 1
    | _ => none
  | .unit, c => match c with
    | 0x10 => some 1 | _ => none
  | .definition, c => match c with
    | 0x12 => some 1 | 0x13 => some 1 | 0x20 => some 1 | 0x21 => some 1 | 0x22 => some 1 | 0x23 => some 1 | 0x24 => some 1
    | 0x25 => some 1 | 0x26 => some 1 | _ => none
  | .trigger, c => match c with
    | 0x10 => some 1 | 0x12 => some 1 | 0x13 => some 1 | 0x28 => some 4 | 0x29 => some 1 | 0x2A => some 1 | _ => none
  | .view, c => match c with
    | 0x30 => some 1 | 0x31 => some 1 | 0x32 => some 1 | 0x33 => some 1 | 0x34 => some 1 | _ => none
  | .console, c => match c with
    | 0x12 => some 1 | 0x13 => some 1 | 0x38 => some 1 | 0x39 => some 1 | 0x3A => some 1 | _ => none
  | .port, _ => none
  | .hub, c => match c with
    | 0x40 => some 1 | 0x41 => some 2 | 0x42 => some 1 | 0x43 => some 1 | _ => none

/-- The field items of a body as (code, value), values read unsigned; none where a code does not belong to the record
kind or the body ends inside an item (R181). The fuel is the number of bytes. -/
def parseItems (rk : RecKind) : Nat → List Byte → Option (List (Nat × Nat))
  | _, [] => some []
  | 0, _ :: _ => none
  | fuel + 1, c :: rest =>
    match fieldSize rk c.toNat with
    | none => none
    | some n =>
      if rest.length < n then none
      else (parseItems rk fuel (rest.drop n)).map ((c.toNat, ofLe (rest.take n)) :: ·)

/-- The items of a body: no code twice, every code among those the request takes (R181). -/
def fitItems (rk : RecKind) (codes : List Nat) (bs : List Byte) : Option (List (Nat × Nat)) :=
  match parseItems rk bs.length bs with
  | none => none
  | some items =>
    if (items.map Prod.fst).Nodup ∧ (items.map Prod.fst).all (codes.contains ·) then some items else none

/-- An optional field: none within where the item is left out; none outside where its value has no meaning. -/
def optItem {α : Type} (dec : Nat → Option α) (items : List (Nat × Nat)) (code : Nat) : Option (Option α) :=
  match items.lookup code with
  | none => some none
  | some v => (dec v).map some

/-- A field the request must carry. -/
def needItem {α : Type} (dec : Nat → Option α) (items : List (Nat × Nat)) (code : Nat) : Option α :=
  (items.lookup code).bind dec

/-- A 4-byte signed field. -/
def signedItem (v : Nat) : Option Int := some (signed32 v)

/-- The source an ENROL DEFINITION names, none where a parameter of its kind is missing (R59, R181). -/
def sourceOfItems (kind : SourceKind) (items : List (Nat × Nat)) : Option SourceSpec :=
  match kind with
  | .line => (items.lookup 0x21).map .line
  | .station => do
    let p ← items.lookup 0x12
    let st ← items.lookup 0x13
    let c ← items.lookup 0x22
    return .station p st c
  | .lag => some .lag
  | .loss => some .loss
  | .link => (items.lookup 0x12).map .link
  | .catchall => some .catchall

/-- The scope an ENROL DEFINITION names, none where its number is missing (R59, R181). -/
def scopeOfItems (kind : ScopeKind) (items : List (Nat × Nat)) : Option Scope :=
  match kind with
  | .source => some .source
  | .unit => (items.lookup 0x24).map .unit
  | .shaft => (items.lookup 0x24).map .shaft
  | .all => some .all

/-! ### Request bodies (R181) -/

/-- ENROL of a record kind (R181); the object id is FFh but for UNIT. -/
def decodeEnrol (o : Origin) (tag : Nat) (rk : RecKind) (obj : Nat) (bs : List Byte) : Option Instr :=
  match rk with
  | .axis => do
    guard (obj = 0xFF)
    let it ← fitItems .axis [0x10, 0x11, 0x12, 0x13, 0x14, 0x15, 0x16, 0x17, 0x18, 0x1A, 0x1B, 0x1C, 0x1D] bs
    let shaft ← it.lookup 0x10
    let unit ← it.lookup 0x11
    let port ← it.lookup 0x12
    let station ← it.lookup 0x13
    let channel ← it.lookup 0x14
    let gearN ← needItem signedItem it 0x15
    let shift ← it.lookup 0x16
    let slew ← it.lookup 0x17
    let lagLimit ← it.lookup 0x1A
    let window ← it.lookup 0x1B
    let lagDef ← it.lookup 0x1C
    let lossDef ← it.lookup 0x1D
    return .enrolAxis o tag { shaft, unit, port, station, channel, gearN, shift, slew, lagLimit, window, lagDef, lossDef }
  | .unit => do
    let it ← fitItems .unit [0x10] bs
    let shaft ← it.lookup 0x10
    return .enrolUnit o tag obj shaft
  | .definition => do
    guard (obj = 0xFF)
    let it ← fitItems .definition [0x12, 0x13, 0x20, 0x21, 0x22, 0x23, 0x24, 0x25, 0x26] bs
    let kind ← needItem sourceKindOf it 0x20
    let src ← sourceOfItems kind it
    let sk ← needItem scopeOf it 0x23
    let scope ← scopeOfItems sk it
    let cat ← needItem categoryOf it 0x25
    let maskable ← needItem boolOf it 0x26
    return .enrolDefinition o tag src scope cat maskable
  | .trigger => do
    guard (obj = 0xFF)
    let it ← fitItems .trigger [0x10, 0x12, 0x13, 0x28, 0x29, 0x2A] bs
    let shaft ← it.lookup 0x10
    let port ← it.lookup 0x12
    let station ← it.lookup 0x13
    let angle ← it.lookup 0x28
    let divider ← it.lookup 0x29
    let enabled ← needItem boolOf it 0x2A
    return .enrolTrigger o tag { shaft, port, station, angle, divider, enabled }
  | .view => do
    guard (obj = 0xFF)
    let it ← fitItems .view [0x30, 0x31, 0x32, 0x33, 0x34] bs
    let trigger ← it.lookup 0x31
    let firstTile ← it.lookup 0x32
    let lastTile ← it.lookup 0x33
    let state ← needItem viewStateOf it 0x34
    return .enrolView o tag { owner := it.lookup 0x30, trigger, firstTile, lastTile, state }
  | .console => do
    guard (obj = 0xFF)
    let it ← fitItems .console [0x12, 0x13, 0x38, 0x39, 0x3A] bs
    let port ← it.lookup 0x12
    let station ← it.lookup 0x13
    let rights ← needItem rightsOfCode it 0x38
    return .enrolConsole o tag { port, station, rights, high := it.lookup 0x39, low := it.lookup 0x3A }
  | _ => none

/-- AMEND of a record kind (R181). AWAIT set makes it AMEND_AXIS_AWAIT (R38). -/
def decodeAmend (o : Origin) (tag : Nat) (rk : RecKind) (obj : Nat) (bs : List Byte) : Option Instr :=
  match rk with
  | .axis => do
    let it ← fitItems .axis [0x10, 0x11, 0x12, 0x13, 0x14, 0x15, 0x16, 0x17, 0x18, 0x19, 0x1A, 0x1B, 0x1C, 0x1D] bs
    let gearN ← optItem signedItem it 0x15
    let trim ← optItem signedItem it 0x18
    let await ← optItem boolOf it 0x19
    let f : AxisFields :=
      { shaft := it.lookup 0x10, unit := it.lookup 0x11, gearN, shift := it.lookup 0x16, slew := it.lookup 0x17, trim,
        lagLimit := it.lookup 0x1A, window := it.lookup 0x1B, lagDef := it.lookup 0x1C, lossDef := it.lookup 0x1D,
        port := it.lookup 0x12, station := it.lookup 0x13, channel := it.lookup 0x14 }
    return if await = some true then .amendAxisAwait o tag obj f else .amendAxis o tag obj f
  | .unit => do
    let it ← fitItems .unit [0x10] bs
    let shaft ← it.lookup 0x10
    return .amendUnit o tag obj shaft
  | .shaft => do
    let it ← fitItems .shaft [0x01, 0x02, 0x03, 0x04, 0x05, 0x06] bs
    return .amendShaft o tag obj
      { period := it.lookup 0x01, vMax := it.lookup 0x02, acc := it.lookup 0x03, dn := it.lookup 0x04, dq := it.lookup 0x05,
        inchLimit := it.lookup 0x06 }
  | .definition => do
    let it ← fitItems .definition [0x12, 0x13, 0x20, 0x21, 0x22, 0x23, 0x24, 0x25, 0x26] bs
    let kind ← optItem sourceKindOf it 0x20
    let scope ← optItem scopeOf it 0x23
    let category ← optItem categoryOf it 0x25
    let maskable ← optItem boolOf it 0x26
    return .amendDefinition o tag obj
      { port := it.lookup 0x12, station := it.lookup 0x13, kind, line := it.lookup 0x21, code := it.lookup 0x22, scope,
        scopeNum := it.lookup 0x24, category, maskable }
  | .trigger => do
    let it ← fitItems .trigger [0x10, 0x12, 0x13, 0x28, 0x29, 0x2A] bs
    let enabled ← optItem boolOf it 0x2A
    return .amendTrigger o tag obj
      { shaft := it.lookup 0x10, port := it.lookup 0x12, station := it.lookup 0x13, angle := it.lookup 0x28,
        divider := it.lookup 0x29, enabled }
  | .view => do
    let it ← fitItems .view [0x30, 0x31, 0x32, 0x33, 0x34] bs
    let state ← optItem viewStateOf it 0x34
    return .amendView o tag obj
      { owner := it.lookup 0x30, trigger := it.lookup 0x31, firstTile := it.lookup 0x32, lastTile := it.lookup 0x33, state }
  | .console => do
    let it ← fitItems .console [0x12, 0x13, 0x38, 0x39, 0x3A] bs
    let rights ← optItem rightsOfCode it 0x38
    return .amendConsole o tag obj
      { port := it.lookup 0x12, station := it.lookup 0x13, rights, high := it.lookup 0x39, low := it.lookup 0x3A }
  | .hub => do
    guard (obj = 0)
    let it ← fitItems .hub [0x40, 0x41, 0x42, 0x43] bs
    let failed ← optItem boolOf it 0x43
    return .amendHub o tag
      { holdLimit := it.lookup 0x40, watchBand := it.lookup 0x41, grace := it.lookup 0x42, failed }
  | .port => none

/-- RETIRE of a record kind (R181). -/
def decodeRetire (o : Origin) (tag : Nat) (rk : RecKind) (obj : Nat) : Option Instr :=
  match rk with
  | .axis => some (.retireAxis o tag obj)
  | .unit => some (.retireUnit o tag obj)
  | .definition => some (.retireDefinition o tag obj)
  | .trigger => some (.retireTrigger o tag obj)
  | .view => some (.retireView o tag obj)
  | .console => some (.retireConsole o tag obj)
  | _ => none

/-- A control point of GRANT and YIELD (R181). -/
def controlPointOf (rk : RecKind) (obj : Nat) : Option ControlPoint :=
  match rk with
  | .unit => some (.unit obj)
  | .shaft => some (.shaft obj)
  | _ => none

/-- The request that a kind, record kind, object id and items spell; none where they do not fit (R181). That a RUN, SPEED or INCH
with another item of the record kind SHAFT does not fit is the model's choice (notes/assumptions/14.md). -/
def decodeBody (o : Origin) (kind tag rk obj : Nat) (bs : List Byte) : Option Instr :=
  match kind with
  | 0x38 => if rk = 0 ∧ obj = 0 ∧ bs = [] then some (.status o tag) else none
  | 0x3F => if rk = 0 ∧ obj = 0 ∧ bs = [] then some (.restart o tag) else none
  | _ =>
    match recKindOf rk with
    | none => none
    | some k =>
      match kind with
      | 0x01 => if bs = [] then some (.read o tag k obj) else none
      | 0x02 => decodeEnrol o tag k obj bs
      | 0x03 => decodeAmend o tag k obj bs
      | 0x04 => if bs = [] then decodeRetire o tag k obj else none
      | 0x10 => do
        guard (k = .shaft)
        let it ← fitItems .shaft [0x07] bs
        let v ← needItem signedItem it 0x07
        return .run o tag obj v
      | 0x11 => do
        guard (k = .shaft)
        let it ← fitItems .shaft [0x07] bs
        let v ← needItem signedItem it 0x07
        return .speed o tag obj v
      | 0x12 => if k = .shaft ∧ bs = [] then some (.stop o tag obj) else none
      | 0x13 => do
        guard (k = .shaft)
        let it ← fitItems .shaft [0x07, 0x08] bs
        let v ← needItem signedItem it 0x07
        let n ← it.lookup 0x08
        return .inch o tag obj v n
      | 0x18 => if k = .axis ∧ bs = [] then some (.engage o tag obj) else none
      | 0x19 => if k = .axis ∧ bs = [] then some (.release o tag obj) else none
      | 0x20 => if bs = [] then (controlPointOf k obj).map (.grant o tag) else none
      | 0x21 => if bs = [] then (controlPointOf k obj).map (.yield o tag) else none
      | 0x28 =>
        if k = .definition ∧ bs = [] then
          some (if obj = 0xFF then .acknowledgeAll o tag else .acknowledge o tag obj)
        else none
      | 0x30 => if k = .axis ∧ bs = [] then some (.watch o tag obj) else none
      | 0x31 => if k = .axis ∧ bs = [] then some (.unwatch o tag obj) else none
      | _ => none

/-- The request a body spells, none where R181 refuses it RANGE. -/
def decodeRequest (o : Origin) (body : List Byte) : Option Instr :=
  match body with
  | k :: tg :: rk :: ob :: rest => decodeBody o k.toNat tg.toNat rk.toNat ob.toNat rest
  | _ => none

/-- The whole body of a WRITE REQUEST from the bytes written after the command byte: a length m of 2 or more and at least
m bytes, those beyond m ignored (R183). -/
def wholeBody (bytes : List Byte) : Option (List Byte) :=
  match bytes with
  | m0 :: m1 :: rest =>
    if 2 ≤ ofLe [m0, m1] ∧ ofLe [m0, m1] ≤ rest.length then some (rest.take (ofLe [m0, m1])) else none
  | _ => none

/-- The command of an SPI transaction from the bytes the line computer clocks in, the command byte first: 02h WRITE REQUEST, 03h
READ REPLY, 01h and every other value READ STATUS; none for a select without a whole command byte (R155, R183). A byte is clocked
out for each byte clocked in. -/
def decodeTransaction (bytes : List Byte) : Option Instr :=
  match bytes with
  | [] => none
  | command :: rest =>
    match command.toNat with
    | 0x02 => some (.writeRequest rest)
    | 0x03 => some (.readReply rest.length)
    | _ => some (.readStatus rest.length)

/-! ### Frames to commands (R165, R179) -/

/-- The entries of a FEEDBACK payload after its count (R179). -/
def feedbackEntries : List Byte → List FbEntry
  | ch :: y0 :: y1 :: y2 :: y3 :: e0 :: e1 :: e2 :: e3 :: rest =>
    { channel := ch.toNat, y := BitVec.ofNat 32 (ofLe [y0, y1, y2, y3]), e := signed32 (ofLe [e0, e1, e2, e3]) } ::
      feedbackEntries rest
  | _ => []

/-- The command of a good frame whose payload fits its kind; none for the frames that are discarded after the presence
report, and for a REQUEST frame whose body does not fit (R165, R179). -/
def fittingFrame (p : PortId) (station kind : Nat) (payload : List Byte) : Option Instr :=
  if station ≥ 16 then none
  else match kind with
    | 0x00 => if payload = [] then some (.idle p station) else none
    | 0x02 =>
      match payload with
      | c :: rest =>
        if (c.toNat = 1 ∨ c.toNat = 2) ∧ rest.length = 9 * c.toNat then some (.feedback p station (feedbackEntries rest))
        else none
      | [] => none
    | 0x03 =>
      match payload with
      | [a, code] =>
        if a.toNat = 1 then some (.raiseTrip p station code.toNat)
        else if a.toNat = 2 then some (.dropTrip p station code.toNat)
        else none
      | _ => none
    | 0x05 =>
      match payload with
      | g :: s0 :: s1 :: ix :: fl :: image =>
        some (.tile p station g.toNat (BitVec.ofNat 16 (ofLe [s0, s1])) ix.toNat (fl.getLsbD 0) image)
      | _ => none
    | 0x06 => if payload = [] then some (.hold p station) else none
    | 0x07 => if payload = [] then some (.go p station) else none
    | 0x08 => decodeRequest (.console p station) payload
    | _ => none

/-- The command that received bytes spell on a port (R161, R165, R179). -/
def decodeFrame (p : PortId) (bs : List Byte) : Instr :=
  match goodFrame bs with
  | none => .badFrame p
  | some (k, st, payload) => (fittingFrame p st k payload).getD (.unknownKindFrame p st k payload)

/-! ### Encoders, from the same tables -/

/-- One field item (R181). -/
def itemBytes (code size : Nat) (v : Int) : List Byte := BitVec.ofNat 8 code :: leSigned size v

/-- A field item where the field is named. -/
def optBytes (code size : Nat) (v : Option Int) : List Byte :=
  match v with
  | some x => itemBytes code size x
  | none => []

/-- The four leading bytes of a request body (R181). -/
def bodyHead (kind tag rk obj : Nat) : List Byte :=
  [BitVec.ofNat 8 kind, BitVec.ofNat 8 tag, BitVec.ofNat 8 rk, BitVec.ofNat 8 obj]

/-- A natural number as the value of a field item. -/
def natField (v : Option Nat) : Option Int := v.map (fun n => (n : Int))

/-- A set-or-clear flag as the value of a field item. -/
def boolField (v : Option Bool) : Option Int := v.map (fun b => if b then 1 else 0)

/-- The items of AMEND AXIS but AWAIT, in ascending code but for 19h (R181). -/
def axisFieldBytes (f : AxisFields) : List Byte :=
  optBytes 0x10 1 (natField f.shaft) ++ optBytes 0x11 1 (natField f.unit) ++ optBytes 0x12 1 (natField f.port) ++
  optBytes 0x13 1 (natField f.station) ++ optBytes 0x14 1 (natField f.channel) ++ optBytes 0x15 4 f.gearN ++
  optBytes 0x16 1 (natField f.shift) ++ optBytes 0x17 4 (natField f.slew) ++ optBytes 0x18 4 f.trim ++
  optBytes 0x1A 4 (natField f.lagLimit) ++ optBytes 0x1B 2 (natField f.window) ++ optBytes 0x1C 1 (natField f.lagDef) ++
  optBytes 0x1D 1 (natField f.lossDef)

/-- The parameter items of a source (R181). -/
def sourceBytes : SourceSpec → List Byte
  | .line n => itemBytes 0x21 1 n
  | .station p st c => itemBytes 0x12 1 p ++ itemBytes 0x13 1 st ++ itemBytes 0x22 1 c
  | .link p => itemBytes 0x12 1 p
  | _ => []

/-- The number item of a scope (R181). -/
def scopeNumBytes : Scope → List Byte
  | .unit u => itemBytes 0x24 1 u
  | .shaft s => itemBytes 0x24 1 s
  | _ => []

/-- Record kind and object id of a control point (R181). -/
def controlPointHead : ControlPoint → Nat × Nat
  | .unit n => (2, n)
  | .shaft n => (3, n)

/-- The body of a request command (R181); none for the commands that are no requests. -/
def encodeRequest (i : Instr) : Option (List Byte) :=
  match i with
  | .run _ tag sh v => some (bodyHead 0x10 tag 3 sh ++ itemBytes 0x07 4 v)
  | .speed _ tag sh v => some (bodyHead 0x11 tag 3 sh ++ itemBytes 0x07 4 v)
  | .stop _ tag sh => some (bodyHead 0x12 tag 3 sh)
  | .inch _ tag sh v n => some (bodyHead 0x13 tag 3 sh ++ itemBytes 0x07 4 v ++ itemBytes 0x08 1 n)
  | .amendShaft _ tag sh f =>
    some (bodyHead 0x03 tag 3 sh ++ optBytes 0x01 2 (natField f.period) ++ optBytes 0x02 4 (natField f.vMax) ++
      optBytes 0x03 2 (natField f.acc) ++ optBytes 0x04 2 (natField f.dn) ++ optBytes 0x05 2 (natField f.dq) ++
      optBytes 0x06 4 (natField f.inchLimit))
  | .enrolAxis _ tag f =>
    some (bodyHead 0x02 tag 1 0xFF ++ itemBytes 0x10 1 f.shaft ++ itemBytes 0x11 1 f.unit ++ itemBytes 0x12 1 f.port ++
      itemBytes 0x13 1 f.station ++ itemBytes 0x14 1 f.channel ++ itemBytes 0x15 4 f.gearN ++ itemBytes 0x16 1 f.shift ++
      itemBytes 0x17 4 f.slew ++ itemBytes 0x1A 4 f.lagLimit ++ itemBytes 0x1B 2 f.window ++ itemBytes 0x1C 1 f.lagDef ++
      itemBytes 0x1D 1 f.lossDef)
  | .amendAxis _ tag x f => some (bodyHead 0x03 tag 1 x ++ axisFieldBytes f)
  | .amendAxisAwait _ tag x f => some (bodyHead 0x03 tag 1 x ++ itemBytes 0x19 1 1 ++ axisFieldBytes f)
  | .engage _ tag x => some (bodyHead 0x18 tag 1 x)
  | .release _ tag x => some (bodyHead 0x19 tag 1 x)
  | .retireAxis _ tag x => some (bodyHead 0x04 tag 1 x)
  | .enrolDefinition _ tag src scope cat m =>
    some (bodyHead 0x02 tag 4 0xFF ++ itemBytes 0x20 1 (sourceKindCode src.kind) ++ sourceBytes src ++
      itemBytes 0x23 1 (scopeCode scope.kind) ++ scopeNumBytes scope ++ itemBytes 0x25 1 (categoryCode cat) ++
      itemBytes 0x26 1 (if m then 1 else 0))
  | .amendDefinition _ tag d f =>
    some (bodyHead 0x03 tag 4 d ++ optBytes 0x12 1 (natField f.port) ++ optBytes 0x13 1 (natField f.station) ++
      optBytes 0x20 1 (natField (f.kind.map sourceKindCode)) ++ optBytes 0x21 1 (natField f.line) ++
      optBytes 0x22 1 (natField f.code) ++ optBytes 0x23 1 (natField (f.scope.map scopeCode)) ++
      optBytes 0x24 1 (natField f.scopeNum) ++ optBytes 0x25 1 (natField (f.category.map categoryCode)) ++
      optBytes 0x26 1 (boolField f.maskable))
  | .retireDefinition _ tag d => some (bodyHead 0x04 tag 4 d)
  | .acknowledge _ tag d => some (bodyHead 0x28 tag 4 d)
  | .acknowledgeAll _ tag => some (bodyHead 0x28 tag 4 0xFF)
  | .enrolUnit _ tag u sh => some (bodyHead 0x02 tag 2 u ++ itemBytes 0x10 1 sh)
  | .amendUnit _ tag u sh => some (bodyHead 0x03 tag 2 u ++ itemBytes 0x10 1 sh)
  | .retireUnit _ tag u => some (bodyHead 0x04 tag 2 u)
  | .grant _ tag cp => some (bodyHead 0x20 tag (controlPointHead cp).1 (controlPointHead cp).2)
  | .yield _ tag cp => some (bodyHead 0x21 tag (controlPointHead cp).1 (controlPointHead cp).2)
  | .enrolTrigger _ tag f =>
    some (bodyHead 0x02 tag 5 0xFF ++ itemBytes 0x10 1 f.shaft ++ itemBytes 0x12 1 f.port ++ itemBytes 0x13 1 f.station ++
      itemBytes 0x28 4 f.angle ++ itemBytes 0x29 1 f.divider ++ itemBytes 0x2A 1 (if f.enabled then 1 else 0))
  | .amendTrigger _ tag g f =>
    some (bodyHead 0x03 tag 5 g ++ optBytes 0x10 1 (natField f.shaft) ++ optBytes 0x12 1 (natField f.port) ++
      optBytes 0x13 1 (natField f.station) ++ optBytes 0x28 4 (natField f.angle) ++ optBytes 0x29 1 (natField f.divider) ++
      optBytes 0x2A 1 (boolField f.enabled))
  | .retireTrigger _ tag g => some (bodyHead 0x04 tag 5 g)
  | .enrolView _ tag f =>
    some (bodyHead 0x02 tag 6 0xFF ++ optBytes 0x30 1 (natField f.owner) ++ itemBytes 0x31 1 f.trigger ++
      itemBytes 0x32 1 f.firstTile ++ itemBytes 0x33 1 f.lastTile ++ itemBytes 0x34 1 (viewStateCode f.state))
  | .amendView _ tag v f =>
    some (bodyHead 0x03 tag 6 v ++ optBytes 0x30 1 (natField f.owner) ++ optBytes 0x31 1 (natField f.trigger) ++
      optBytes 0x32 1 (natField f.firstTile) ++ optBytes 0x33 1 (natField f.lastTile) ++
      optBytes 0x34 1 (natField (f.state.map viewStateCode)))
  | .retireView _ tag v => some (bodyHead 0x04 tag 6 v)
  | .watch _ tag x => some (bodyHead 0x30 tag 1 x)
  | .unwatch _ tag x => some (bodyHead 0x31 tag 1 x)
  | .enrolConsole _ tag f =>
    some (bodyHead 0x02 tag 7 0xFF ++ itemBytes 0x12 1 f.port ++ itemBytes 0x13 1 f.station ++
      itemBytes 0x38 1 (rightsCode f.rights) ++ optBytes 0x39 1 (natField f.high) ++ optBytes 0x3A 1 (natField f.low))
  | .amendConsole _ tag k f =>
    some (bodyHead 0x03 tag 7 k ++ optBytes 0x12 1 (natField f.port) ++ optBytes 0x13 1 (natField f.station) ++
      optBytes 0x38 1 (natField (f.rights.map rightsCode)) ++ optBytes 0x39 1 (natField f.high) ++
      optBytes 0x3A 1 (natField f.low))
  | .retireConsole _ tag k => some (bodyHead 0x04 tag 7 k)
  | .read _ tag kind id => some (bodyHead 0x01 tag (recKindCode kind) id)
  | .status _ tag => some (bodyHead 0x38 tag 0 0)
  | .restart _ tag => some (bodyHead 0x3F tag 0 0)
  | .amendHub _ tag f =>
    some (bodyHead 0x03 tag 9 0 ++ optBytes 0x40 1 (natField f.holdLimit) ++ optBytes 0x41 2 (natField f.watchBand) ++
      optBytes 0x42 1 (natField f.grace) ++ optBytes 0x43 1 (boolField f.failed))
  | .cycleEvent _ | .feedback _ _ _ | .raiseTrip _ _ _ | .dropTrip _ _ _ | .tripLineChange _ _ | .inhibitAsserted
  | .inhibitReleased | .tile _ _ _ _ _ _ _ | .hold _ _ | .go _ _ | .holdTimerExpiry _ | .readStatus _ | .readReply _
  | .light _ | .lossOfLight _ | .badFrame _ | .idle _ _ | .unknownKindFrame _ _ _ _ | .transmitterFree _
  | .resetAsserted | .resetReleased | .writeRequest _ => none

/-- One entry of a FEEDBACK payload (R179). -/
def feedbackEntryBytes (en : FbEntry) : List Byte :=
  BitVec.ofNat 8 en.channel :: (leBytes 4 en.y.toNat ++ leSigned 4 en.e)

/-- The frame of a station's own command, whole with its CRC; none for requests and for commands that are no frames
(R179). -/
def encodeStationFrame (i : Instr) : Option (List Byte) :=
  match i with
  | .idle _ st => some (frameBytes 0x00 st [])
  | .feedback _ st es => some (frameBytes 0x02 st (BitVec.ofNat 8 es.length :: (es.map feedbackEntryBytes).flatten))
  | .raiseTrip _ st code => some (frameBytes 0x03 st [1, BitVec.ofNat 8 code])
  | .dropTrip _ st code => some (frameBytes 0x03 st [2, BitVec.ofNat 8 code])
  | .tile _ st g seq ix last image =>
    some (frameBytes 0x05 st
      (BitVec.ofNat 8 g :: (leBytes 2 seq.toNat ++ (BitVec.ofNat 8 ix :: boolByte last :: image))))
  | .hold _ st => some (frameBytes 0x06 st [])
  | .go _ st => some (frameBytes 0x07 st [])
  | _ => none

end Sys2Proof
end

