-- ==== Sys2Proof/Machine/State.lean ====
section
/-! DEFINITION. The state of the hub: every record, queue, flag, timer and pin the manual names, as plain data, and the
state right after pin reset. Each field's docstring names the rule it comes from. -/
namespace Sys2Proof.Machine
open Sys2Proof

/-- A table of records by id, ids strictly rising. -/
abbrev Tbl (α : Type) := List (Nat × α)

/-! ### Line shafts (chapter 1) -/

/-- Shaft state (R1). -/
inductive ShaftState | standby | running | inching | stopping | tripStopping | tripped
deriving DecidableEq, Repr

/-- Demand of a shaft (R1, R74). -/
inductive Demand | none | ramp | quick
deriving DecidableEq, Repr

/-- Trip rate of a shaft in TRIP_STOPPING (R1). -/
inductive TripRate | ramp | quick
deriving DecidableEq, Repr

/-- The inch fields, present together (R1). `forward` is the model's own: the direction of the inch, which R10 needs
after AMEND SHAFT has clamped Vt to 0 (notes/assumptions/9.md). -/
structure Inch where
  remaining : Nat
  requester : Option Nat
  noted     : Bool
  forward   : Bool
deriving DecidableEq, Repr

/-- The shaft record (R1). -/
structure Shaft where
  state     : ShaftState
  v         : Int
  vt        : Int
  frac      : BitVec 8
  angle     : Angle
  rep       : Count16
  cycle     : Count16
  period    : Nat
  vMax      : Nat
  acc       : Nat
  dn        : Nat
  dq        : Nat
  inchLimit : Nat
  demand    : Demand
  tripRate  : Option TripRate
  inch      : Option Inch
deriving DecidableEq, Repr

/-- A shaft record after pin reset (R1). -/
def Shaft.reset : Shaft :=
  { state := .standby, v := 0, vt := 0, frac := 0, angle := 0, rep := 0, cycle := 0, period := 1000, vMax := 0, acc := 256,
    dn := 256, dq := 1024, inchLimit := 0, demand := .none, tripRate := none, inch := none }

/-! ### Axis records (chapter 3) -/

/-- The await part of an axis record (R33). -/
structure Await where
  requester : Option Nat
  noted     : Bool
deriving DecidableEq, Repr

/-- The axis record (R33). The id is its key in the axis table. -/
structure Axis where
  shaft       : ShaftId
  unit        : Nat
  port        : PortId
  station     : Nat
  channel     : Nat
  gearN       : Int
  shift       : Nat
  rem         : Nat
  w           : Position
  c           : Int
  t           : Int
  slew        : Nat
  x           : Position
  y           : Option Position
  e           : Option Int
  lagLimit    : Nat
  window      : Nat
  windowCount : Nat
  lagDef      : Nat
  lossDef     : Nat
  engaged     : Bool
  lagCause    : Bool
  lossCause   : Bool
  await       : Option Await
deriving DecidableEq, Repr

/-- The two supervision causes of an axis (R52, R53). -/
inductive CauseKind | lag | loss
deriving DecidableEq, Repr

/-- A report of an axis's cause change on its way to the trip unit (R52, R53). -/
structure Report where
  axis    : Nat
  kind    : CauseKind
  defn    : Nat
  present : Bool
deriving DecidableEq, Repr

/-! ### Trips (chapter 4) -/

/-- The identity of a trip source (chapter 4, principle of operation; R70). -/
inductive Source
  | line (n : Nat)
  | station (port station code : Nat)
  | lag (axis : Nat)
  | loss (axis : Nat)
  | link (port : Nat)
deriving DecidableEq, Repr

/-- A trip definition (R58). The index is its key. `cause` and `presentAxes` are the derived fields, kept as the events
of R62 to R67 form them. `presentAxes` is a set, kept as an ascending list, which is the model's choice (notes/assumptions/38.md). -/
structure Definition where
  src         : SourceSpec
  scope       : Scope
  category    : Category
  maskable    : Bool
  held        : Bool
  cause       : Bool
  presentAxes : List Nat
deriving DecidableEq, Repr

/-- D0, the catch-all, after pin reset (R58). -/
def Definition.catchAll : Definition :=
  { src := .catchall, scope := .all, category := .quick, maskable := false, held := false, cause := false, presentAxes := [] }

/-- Life-cycle state of a trip entry (R72). -/
inductive EntryState | raised | acked | cleared
deriving DecidableEq, Repr

/-- An entry of the active trip list (R70). Coverage and source axes are sets, kept as ascending lists, which is the model's choice
(notes/assumptions/38.md). -/
structure Entry where
  defn        : Nat
  state       : EntryState
  coverage    : List ShaftId
  sourceAxes  : List Nat
  firstSource : Source
  ackedBy     : Option Nat
deriving DecidableEq, Repr

/-! ### Units and grants (chapter 5) -/

/-- A unit record with its grant stack, bottom to top (R87). The axis count is derived. -/
structure UnitRec where
  shaft : ShaftId
  stack : List Nat
deriving DecidableEq, Repr

/-! ### Camera triggers (chapter 6) -/

/-- A trigger record (R100). -/
structure Trigger where
  shaft   : ShaftId
  port    : PortId
  station : Nat
  angle   : Angle
  divider : Nat
  phase   : Nat
  seq     : Count16
  enabled : Bool
deriving DecidableEq, Repr

/-! ### Views and tiles (chapter 7) -/

/-- A view record (R114). -/
structure View where
  owner     : Nat
  trigger   : Nat
  firstTile : Nat
  lastTile  : Nat
  state     : ViewState
  thin      : Nat
  lastThin  : Option Count16
deriving DecidableEq, Repr

/-- A tile copy in a segment, or in an outbound TILE frame (R118, R127). -/
structure Tile where
  trigger : Nat
  seq     : Count16
  index   : Nat
  last    : Bool
  payload : List Byte
deriving DecidableEq, Repr

/-! ### Watches (chapter 8) -/

/-- A watch entry (R133). -/
structure Watch where
  axis     : Nat
  pending  : Bool
  lastTrim : Option Int
  lastLag  : Option Int
deriving DecidableEq, Repr

/-! ### Requests, replies, notices (chapter 9) -/

/-- Why a request is refused (R151). -/
inductive Reason
  | busy | rights | held | unheld | state | moving | tripped | absent | inUse | full | range | deep | duplicate | far | failed
deriving DecidableEq, Repr

/-- Why an awaited operation is cut (R150). -/
inductive CutCause | stop | tripped | superseded | released | restart | failed
deriving DecidableEq, Repr

/-- The notice flags a console and the line computer both hold (R153). -/
structure NoticeFlags where
  trips  : Bool
  shafts : Bool
  grants : Bool
  hub    : Bool
deriving DecidableEq, Repr

/-- All four flags clear. -/
def NoticeFlags.clear : NoticeFlags := { trips := false, shafts := false, grants := false, hub := false }

/-- All four flags set (R145). -/
def NoticeFlags.all : NoticeFlags := { trips := true, shafts := true, grants := true, hub := true }

/-- Hub condition (R172). -/
inductive Condition | normal | failed
deriving DecidableEq, Repr

/-- One field item of a record image: its code and its value bytes (R182). -/
structure Item where
  code  : Nat
  value : List Byte
deriving DecidableEq, Repr

/-- The first-out entry as STATUS reports it (R157). -/
structure FirstOut where
  defn    : Nat
  state   : EntryState
  source  : Source
  ackedBy : Option Nat
deriving DecidableEq, Repr

/-- The contents of a STATUS reply (R157). -/
structure StatusReport where
  condition   : Condition
  entries     : Nat
  overflow    : Bool
  firstOut    : Option FirstOut
  axes        : Nat
  units       : Nat
  definitions : Nat
  triggers    : Nat
  views       : Nat
  consoles    : Nat
deriving DecidableEq, Repr

/-- The further fields of a DONE or NOTED reply (R150, R182). -/
inductive Result
  | plain
  | newId (id : Nat)
  | image (kind : RecKind) (id : Nat) (items : List Item)
  | status (r : StatusReport)
deriving DecidableEq, Repr

/-- Class and further fields of a reply (R150). -/
inductive ReplyBody
  | done (r : Result)
  | noted (r : Result)
  | cut (cause : CutCause) (residual : Int)
  | refused (why : Reason)
deriving DecidableEq, Repr

/-- A reply: the request kind and tag as received, and the body (R150, R182). -/
structure Reply where
  kind : Nat
  tag  : Nat
  body : ReplyBody
deriving DecidableEq, Repr

/-- The awaited object of a request in flight (R141). -/
inductive Awaited
  | shaft (s : ShaftId)
  | axis (x : Nat)
deriving DecidableEq, Repr

/-- The in-flight record of a requester (R148). -/
structure Flight where
  kind    : Nat
  tag     : Nat
  awaited : Option Awaited
deriving DecidableEq, Repr

/-- A console record (R141) with its tile segment (R118) and its watch set (R133). -/
structure Console where
  port      : PortId
  station   : Nat
  rights    : Rights
  present   : Bool
  high      : Nat
  low       : Nat
  flags     : NoticeFlags
  flight    : Option Flight
  slot      : Option Reply
  slots     : List Tile
  held      : Bool
  /-- The hold timer: stopped, or running with the limit in ms it was started with (R124, R126). -/
  holdTimer : Option Nat
  watches   : List Watch
deriving DecidableEq, Repr

/-- The line computer's place in the requester table (R141, R155). -/
structure LinePlace where
  flags      : NoticeFlags
  ports      : Bool
  flight     : Option Flight
  slot       : Option Reply
  writeTaken : Bool
deriving DecidableEq, Repr

/-! ### Line-link ports (chapter 10) -/

/-- Alignment state of a port (R160). -/
inductive PortState | dark | aligning | up
deriving DecidableEq, Repr

/-- One channel's entry in a SETPOINT frame (R54). -/
structure SetpointEntry where
  channel  : Nat
  x        : Position
  enable   : Bool
  trimming : Bool
deriving DecidableEq, Repr

/-- A SETPOINT frame (R54). -/
structure SetpointFrame where
  station : Nat
  shaft   : ShaftId
  cycle   : Count16
  entries : List SetpointEntry
deriving DecidableEq, Repr

/-- A STROBE frame (R108). -/
structure StrobeFrame where
  station : Nat
  trigger : Nat
  seq     : Count16
  rep     : Count16
  delay   : Nat
  cycle   : Count16
deriving DecidableEq, Repr

/-- A VALUE frame (R138). -/
structure ValueFrame where
  axis        : Nat
  cycle       : Count16
  engaged     : Bool
  t           : Int
  c           : Int
  e           : Option Int
  lagCause    : Bool
  lossCause   : Bool
  demand      : Demand
  haltCovered : Bool
deriving DecidableEq, Repr

/-- A frame on the transmitter of a port, with its destination station (R166, R179). -/
inductive OutFrame
  | idle
  | setpoint (f : SetpointFrame)
  | strobe (f : StrobeFrame)
  | reply (station : Nat) (r : Reply)
  | notice (station : Nat) (flags : NoticeFlags)
  | value (station : Nat) (f : ValueFrame)
  | tile (station : Nat) (t : Tile)
deriving DecidableEq, Repr

/-- Whose reply waits in a port's REPLY class: a console's slot or the port's stray slot (R149). -/
inductive ReplyPlace
  | console (k : Nat)
  | stray
deriving DecidableEq, Repr

/-- A port record (R160). The queues are oldest first. -/
structure Port where
  state      : PortState
  goodRun    : Nat
  badRun     : Nat
  grace      : Nat
  lastServed : Option Nat
  setpointQ  : List SetpointFrame
  strobeQ    : List StrobeFrame
  replyQ     : List ReplyPlace
  /-- The stray slot: the refused station and the refusal (R149). -/
  stray      : Option (Nat × Reply)
  noticeQ    : List Nat
  /-- The pending queue: console and axis of each waiting watch entry (R137). -/
  valueQ     : List (Nat × Nat)
  sending    : Option OutFrame
deriving DecidableEq, Repr

/-- A port record after pin reset (R160). -/
def Port.reset : Port :=
  { state := .dark, goodRun := 0, badRun := 0, grace := 0, lastServed := none, setpointQ := [], strobeQ := [], replyQ := [],
    stray := none, noticeQ := [], valueQ := [], sending := none }

/-! ### Hub record and record memory (chapter 11) -/

/-- The hub record (R172). -/
structure Hub where
  condition : Condition
  holdLimit : Nat
  watchBand : Nat
  grace     : Nat
deriving DecidableEq, Repr

/-- The hub record after pin reset (R172). -/
def Hub.reset : Hub := { condition := .normal, holdLimit := 50, watchBand := 16, grace := 4 }

/-- A record of the record memory, as parity checking sees it (R173): the model takes the words of one record together, but for a
console's port and station, which every frame is matched against and which stand apart as `address` (notes/assumptions/5.md). -/
inductive Rec
  | shaft (s : ShaftId)
  | axis (x : Nat)
  | unit (u : Nat)
  | stack (s : ShaftId)
  | definition (d : Nat)
  | tripList
  | unmatched
  | trigger (g : Nat)
  | triggerList (s : ShaftId)
  | view (v : Nat)
  | segment (k : Nat)
  | watchSet (k : Nat)
  | address (k : Nat)
  | console (k : Nat)
  | port (p : PortId)
  | hub
deriving DecidableEq, Repr

/-! ### Faults and refusals -/

/-- No command of the hub stops it: the manual gives every command an effect, so this type has no constructor and the
fault outcome cannot arise. -/
inductive Fault
deriving DecidableEq, Repr

/-- Why the model has no meaning for a command. -/
inductive Refusal
  /-- Raised by `exec` alone, for a row of the table that has no meaning yet; safe, for the machine goes no further. -/
  | notModelled (mnemonic : String)
deriving DecidableEq, Repr

/-! ### The state -/

/-- The hub. -/
structure State where
  /-- RESET asserted (R177, R184). -/
  resetPin     : Bool
  /-- TRIPIN0 to TRIPIN7, true at the trip level (R62). -/
  tripPins     : Vector Bool 8
  /-- INHIBIT asserted (R68). -/
  inhibitPin   : Bool
  /-- SD0 to SD5, true while light is received (R161, R184). -/
  lightPins    : Vector Bool 6
  /-- Length in µs of the interval each shaft's cycle timer is running (R2). The timers run while RESET is released. -/
  timers       : Vector Nat 4
  /-- S0 to S3 (R1). -/
  shafts       : Vector Shaft 4
  /-- The axis table, X0 to X63 (R33). -/
  axes         : Tbl Axis
  /-- Trip definitions, D0 to D31 (R58). -/
  defs         : Tbl Definition
  /-- The active trip list, head first (R70). -/
  trips        : List Entry
  /-- The unmatched-source set, in order of arrival (R66). -/
  unmatched    : List Source
  /-- The overflow mark of the unmatched-source set (R66). -/
  overflow     : Bool
  /-- The link-seen marks (R64). -/
  linkSeen     : Vector Bool 6
  /-- Unit records, U0 to U15, with their grant stacks (R87). -/
  units        : Tbl UnitRec
  /-- Grant stacks of the shaft control points, bottom to top (R86, R91). -/
  shaftStacks  : Vector (List Nat) 4
  /-- Trigger records, G0 to G47 (R100). -/
  triggers     : Tbl Trigger
  /-- The trigger list of each shaft (R101). -/
  triggerLists : Vector (List Nat) 4
  /-- View records, V0 to V23 (R114). -/
  views        : Tbl View
  /-- Console records, K1 to K8 (R141). -/
  consoles     : Tbl Console
  /-- The line computer's place (R141, R155). -/
  line         : LinePlace
  /-- P0 to P5 (R160). -/
  ports        : Vector Port 6
  /-- The hub record (R172). -/
  hub          : Hub
  /-- What the hub clocked out on SDO in the latest SPI transaction (R155, R183). -/
  spiOut       : List Byte
  /-- Records that hold a word whose parity does not check (R173). -/
  badRecs      : List Rec
  /-- Reports of axis causes on their way to the trip unit, in the order the causes changed (R53). -/
  reports      : List Report
  /-- The model's own: how many free values have been drawn (notes/assumptions/3.md). -/
  freeCount    : Nat
  /-- The commands that wait, first in, first out. -/
  pending      : List Instr
deriving DecidableEq, Repr

/-- The hub right after pin reset, RESET released: every record at its value after pin reset (R177), the line computer's
HUB flag set (R153), the timers on their first interval (R2), no command waiting. The input pins stand at rest and the
fibres are dark (notes/assumptions/1.md, notes/assumptions/2.md). -/
def State.reset : State :=
  { resetPin := false
    tripPins := Vector.replicate 8 false
    inhibitPin := false
    lightPins := Vector.replicate 6 false
    timers := Vector.replicate 4 1000
    shafts := Vector.replicate 4 Shaft.reset
    axes := []
    defs := [(0, Definition.catchAll)]
    trips := []
    unmatched := []
    overflow := false
    linkSeen := Vector.replicate 6 false
    units := []
    shaftStacks := Vector.replicate 4 []
    triggers := []
    triggerLists := Vector.replicate 4 []
    views := []
    consoles := []
    line := { flags := { NoticeFlags.clear with hub := true }, ports := false, flight := none, slot := none, writeTaken := false }
    ports := Vector.replicate 6 Port.reset
    hub := Hub.reset
    spiOut := []
    badRecs := []
    reports := []
    freeCount := 0
    pending := [] }

end Sys2Proof.Machine
end

