-- ==== Sys2Proof/Machine/Ops.lean ====
section
/-! DEFINITION. The shared operations: tables, access to records, record memory checking (R173, R174), requesters, replies
(R149) and the tests several blocks make. -/
namespace Sys2Proof.Machine
open Sys2Proof

/-! ### Tables -/

/-- The record with an id. -/
def tblGet {α : Type} (t : Tbl α) (k : Nat) : Option α := t.lookup k

/-- Put a record at an id, keeping ids strictly rising. -/
def tblSet {α : Type} (t : Tbl α) (k : Nat) (v : α) : Tbl α :=
  match t with
  | [] => [(k, v)]
  | (j, w) :: rest =>
    if k < j then (k, v) :: (j, w) :: rest
    else if k = j then (k, v) :: rest
    else (j, w) :: tblSet rest k v

/-- Take the record with an id out. -/
def tblErase {α : Type} (t : Tbl α) (k : Nat) : Tbl α := t.filter (fun p => p.1 != k)

/-- The ids of a table, rising. -/
def tblIds {α : Type} (t : Tbl α) : List Nat := t.map Prod.fst

/-- Change every record by its id and contents. -/
def tblMap {α : Type} (f : Nat → α → α) (t : Tbl α) : Tbl α := t.map (fun p => (p.1, f p.1 p.2))

/-- Ids of the records that satisfy a test, rising. -/
def tblFind {α : Type} (test : α → Bool) (t : Tbl α) : List Nat := (t.filter (fun p => test p.2)).map Prod.fst

/-- The lowest id from `lo`, among `n`, that is not in use (R35, R59, R102, R115, R142). -/
def lowestFree {α : Type} (t : Tbl α) (lo n : Nat) : Option Nat :=
  (List.range' lo n).find? (fun k => (tblGet t k).isNone)

/-- Insert into an ascending list without repeats. -/
def insertAsc (x : Nat) : List Nat → List Nat
  | [] => [x]
  | y :: ys => if x < y then x :: y :: ys else if x = y then y :: ys else y :: insertAsc x ys

/-- The shafts S0 to S3, in order. -/
def allShafts : List ShaftId := [0, 1, 2, 3]

/-- The ports P0 to P5, in order. -/
def allPorts : List PortId := [0, 1, 2, 3, 4, 5]

/-- A number as a shaft, where it is one. -/
def toShaft (n : Nat) : Option ShaftId := if h : n < 4 then some ⟨n, h⟩ else none

/-- A number as a port, where it is one. -/
def toPort (n : Nat) : Option PortId := if h : n < 6 then some ⟨n, h⟩ else none

/-! ### Records -/

/-- The shaft record of `i`. -/
def State.shaft (s : State) (i : ShaftId) : Shaft := s.shafts[i.val]

/-- Write the shaft record of `i`. -/
def State.setShaft (s : State) (i : ShaftId) (v : Shaft) : State := { s with shafts := s.shafts.set i.val v }

/-- The port record of `i`. -/
def State.port (s : State) (i : PortId) : Port := s.ports[i.val]

/-- Write the port record of `i`. -/
def State.setPort (s : State) (i : PortId) (v : Port) : State := { s with ports := s.ports.set i.val v }

/-- The axis record with an id. -/
def State.axis (s : State) (x : Nat) : Option Axis := tblGet s.axes x

/-- Write an axis record. -/
def State.setAxis (s : State) (x : Nat) (v : Axis) : State := { s with axes := tblSet s.axes x v }

/-- The trip definition with an index. -/
def State.defn (s : State) (d : Nat) : Option Definition := tblGet s.defs d

/-- Write a trip definition. -/
def State.setDefn (s : State) (d : Nat) (v : Definition) : State := { s with defs := tblSet s.defs d v }

/-- The unit record with an id. -/
def State.unit (s : State) (u : Nat) : Option UnitRec := tblGet s.units u

/-- The trigger record with an id. -/
def State.trigger (s : State) (g : Nat) : Option Trigger := tblGet s.triggers g

/-- The view record with an id. -/
def State.view (s : State) (v : Nat) : Option View := tblGet s.views v

/-- The console record with a number. -/
def State.console (s : State) (k : Nat) : Option Console := tblGet s.consoles k

/-- Write a console record. -/
def State.setConsole (s : State) (k : Nat) (v : Console) : State := { s with consoles := tblSet s.consoles k v }

/-- Change a console record where it exists. -/
def State.modConsole (s : State) (k : Nat) (f : Console → Console) : State :=
  match s.console k with
  | some c => s.setConsole k (f c)
  | none => s

/-- Change a port record. -/
def State.modPort (s : State) (p : PortId) (f : Port → Port) : State := s.setPort p (f (s.port p))

/-- Change every shaft record. -/
def mapShafts (f : Shaft → Shaft) (s : State) : State := allShafts.foldl (fun t i => t.setShaft i (f (t.shaft i))) s

/-- Change every port record. -/
def mapPorts (f : Port → Port) (s : State) : State := allPorts.foldl (fun t i => t.setPort i (f (t.port i))) s

/-- Change the grant stack of every shaft control point. -/
def mapShaftStacks (f : List Nat → List Nat) (s : State) : State :=
  allShafts.foldl (fun t i => { t with shaftStacks := t.shaftStacks.set i.val (f t.shaftStacks[i.val]) }) s

/-- The hub is FAILED (R172). -/
def State.failed (s : State) : Bool := s.hub.condition = .failed

/-- The consoles whose records name a port, in ascending number. -/
def consolesOn (s : State) (p : PortId) : List Nat := tblFind (fun c => c.port = p) s.consoles

/-- The axes that follow a shaft, in ascending id. -/
def axesOf (s : State) (sh : ShaftId) : List Nat := tblFind (fun a => a.shaft = sh) s.axes

/-! ### Record memory (R173, R174) -/

/-- A read in NORMAL of one of these records finds a bad word (R174). While FAILED a bad word changes nothing (R176). -/
def findsBad (s : State) (rs : List Rec) : Bool := !s.failed && rs.any (s.badRecs.contains ·)

/-- How far a piece of work has gone: on, or stopped at a bad word with the changes made before the read (R174). -/
inductive Progress
  | on (s : State)
  | stopped (s : State)
deriving DecidableEq, Repr

/-- The state a piece of work left, stopped or not. -/
def Progress.state : Progress → State
  | .on s => s
  | .stopped s => s

/-- Go on with `k` where the work has not stopped. -/
def Progress.andThen (r : Progress) (k : State → Progress) : Progress :=
  match r with
  | .on s => k s
  | .stopped s => .stopped s

/-- Read these records, then go on with `k`; stop where one of them holds a bad word (R174). -/
def reading (rs : List Rec) (k : State → Progress) (s : State) : Progress :=
  if findsBad s rs then .stopped s else k s

/-- Do one piece of work for each member of a list, in order. -/
def forEach {α : Type} (xs : List α) (f : α → State → Progress) (s : State) : Progress :=
  match xs with
  | [] => .on s
  | x :: rest => (f x s).andThen (forEach rest f)

/-- The ports and stations of the consoles, which a frame is matched against (R147, R165). -/
def addressRecs (s : State) : List Rec := (tblIds s.consoles).map .address

/-- The records of the requester table's consoles, read wherever a notice or a reply is decided for all of them. -/
def consoleRecs (s : State) : List Rec := addressRecs s ++ (tblIds s.consoles).map .console

/-- Console records and watch sets: what an order reads that sets flags, places replies and makes entries pending. -/
def partyRecs (s : State) : List Rec := consoleRecs s ++ (tblIds s.consoles).map .watchSet

/-- The records of the whole axis table. -/
def axisRecs (s : State) : List Rec := (tblIds s.axes).map .axis

/-- The records of the views. -/
def viewRecs (s : State) : List Rec := (tblIds s.views).map .view

/-- What the going of a console reads beside the consoles: the inches and awaited trims that may name it, every grant stack and
the views (R11, R41, R97, R128, R129). -/
def leavingRecs (s : State) : List Rec :=
  allShafts.map .shaft ++ axisRecs s ++ (tblIds s.units).map .unit ++ allShafts.map .stack ++ viewRecs s

/-! ### Requesters (R141) -/

/-- Rights of a requester (R141). -/
def rightsOf (s : State) (r : Nat) : Option Rights :=
  if r = 0 then some .line else (s.console r).map (·.rights)

/-- Rights compared, lowest first (R93). -/
def Rights.rank : Rights → Nat
  | .viewer => 0 | .operator => 1 | .setter => 2 | .line => 3

/-- The in-flight record of a requester (R148). -/
def flightOf (s : State) (r : Nat) : Option Flight :=
  if r = 0 then s.line.flight else (s.console r).bind (·.flight)

/-- Write a requester's in-flight record. -/
def setFlight (r : Nat) (f : Option Flight) (s : State) : State :=
  if r = 0 then { s with line := { s.line with flight := f } } else s.modConsole r (fun c => { c with flight := f })

/-- The reply slot of a requester (R149, R156). -/
def slotOf (s : State) (r : Nat) : Option Reply :=
  if r = 0 then s.line.slot else (s.console r).bind (·.slot)

/-- The console whose record has a port and station (R147). -/
def consoleAt (s : State) (p : PortId) (st : Nat) : Option Nat :=
  (tblFind (fun c => c.port = p && c.station == st) s.consoles).head?

/-! ### Replies (R149) -/

/-- The reply is a BUSY refusal. -/
def Reply.isBusy (r : Reply) : Bool := r.body = .refused .busy

/-- A place joins the tail of a port's REPLY class, leaving any place it held (R168). -/
def joinReplyQ (p : PortId) (w : ReplyPlace) (s : State) : State :=
  s.modPort p (fun q => { q with replyQ := q.replyQ.filter (· != w) ++ [w] })

/-- Put a reply into a requester's slot, on its port's REPLY class for a console (R149). That it is placed also where the port of a PRESENT
console is not UP is the model's choice (notes/assumptions/39.md). -/
def putReply (r : Nat) (rep : Reply) (s : State) : State :=
  if r = 0 then { s with line := { s.line with slot := some rep } }
  else match s.console r with
    | some c => joinReplyQ c.port (.console r) (s.setConsole r { c with slot := some rep })
    | none => s

/-- Place the reply of a requester's in-flight request: kind and tag are those of the request in flight, and a BUSY
refusal still waiting is lost (R148, R149). Nothing is placed where nothing is in flight. -/
def replyInFlight (r : Nat) (body : ReplyBody) (s : State) : State :=
  match flightOf s r with
  | some f => putReply r { kind := f.kind, tag := f.tag, body } s
  | none => s

/-- Place a BUSY refusal: lost where the reply of the in-flight request waits (R149). -/
def placeBusy (r kind tag : Nat) (s : State) : State :=
  match slotOf s r with
  | none => putReply r { kind, tag, body := .refused .busy } s
  | some old => if old.isBusy then putReply r { kind, tag, body := .refused .busy } s else s

/-- Place a RIGHTS refusal to a station that is no console in the port's stray slot (R149). -/
def placeStray (p : PortId) (st kind tag : Nat) (s : State) : State :=
  joinReplyQ p .stray
    (s.modPort p (fun q => { q with stray := some (st, { kind, tag, body := .refused .rights }) }))

/-- Reply to the requester an operation's record names; dropped where it is absent (R11, R41). -/
def replyTo (r : Option Nat) (body : ReplyBody) (s : State) : State :=
  match r with
  | some k => replyInFlight k body s
  | none => s

/-! ### Grant stacks (R91) -/

/-- The grant stack of a control point, none where the point does not exist (R86). -/
def stackOf (s : State) : ControlPoint → Option (List Nat)
  | .unit u => (s.unit u).map (·.stack)
  | .shaft n => (toShaft n).map (fun i => s.shaftStacks[i.val])

/-- Write the grant stack of a control point. -/
def setStack (cp : ControlPoint) (st : List Nat) (s : State) : State :=
  match cp with
  | .unit u =>
    match s.unit u with
    | some r => { s with units := tblSet s.units u { r with stack := st } }
    | none => s
  | .shaft n =>
    match toShaft n with
    | some i => { s with shaftStacks := s.shaftStacks.set i.val st }
    | none => s

/-- The holder: the requester at the top of a stack, which is written bottom to top (R91). -/
def holderOf (stack : List Nat) : Option Nat := stack.getLast?

/-- The record that holds a control point's stack. -/
def stackRec : ControlPoint → Rec
  | .unit u => .unit u
  | .shaft n => match toShaft n with
    | some i => .stack i
    | none => .stack 0

/-- The holder check (R95): none where it passes, the reason where it refuses. -/
def holderCheck (s : State) (r : Nat) (cp : ControlPoint) : Option Reason :=
  if r = 0 then none
  else match (stackOf s cp).bind holderOf with
    | none => some .unheld
    | some h => if h = r then none else some .held

/-- Number of axis records that name a unit (R87). -/
def axisCount (s : State) (u : Nat) : Nat := (tblFind (fun a => a.unit == u) s.axes).length

/-! ### Trip entries (R70) -/

/-- The entry of a definition in the active trip list. -/
def entryOf (s : State) (d : Nat) : Option Entry := s.trips.find? (fun e => e.defn == d)

/-- The entry's definition has category HALT. -/
def isHalt (s : State) (e : Entry) : Bool :=
  match s.defn e.defn with
  | some d => d.category = .halt
  | none => false

/-- An entry covers an axis as a HALT entry may (R47). -/
def coversAxis (s : State) (e : Entry) (x : Nat) (a : Axis) : Bool :=
  match s.defn e.defn with
  | some d =>
    match d.scope with
    | .shaft _ | .all => e.coverage.contains a.shaft
    | .unit u => a.unit == u
    | .source => e.sourceAxes.contains x
  | none => false

/-- A HALT entry covers the axis (R47). -/
def haltCovers (s : State) (x : Nat) (a : Axis) : Bool :=
  s.trips.any (fun e => isHalt s e && coversAxis s e x a)

/-- What a trip unit event reads: the list, the unmatched-source set and every definition. -/
def tripRecs (s : State) : List Rec := .tripList :: .unmatched :: (tblIds s.defs).map .definition

/-! ### Outputs -/

/-- STOPCHAIN is open (R81). -/
def State.stopchainOpen (s : State) : Bool := s.resetPin || s.failed || s.trips.any (isHalt s)

/-- ATTN is asserted (R156). -/
def State.attn (s : State) : Bool :=
  !s.resetPin &&
    (s.line.slot.isSome || s.line.flags.trips || s.line.flags.shafts || s.line.flags.grants || s.line.flags.hub || s.line.ports)

end Sys2Proof.Machine
end

