-- ==== Sys2Proof/Machine/Flags.lean ====
section
/-! DEFINITION. Notice flags and NOTICE entries (R153, R154), and the marking of watch entries (R136, R137). -/
namespace Sys2Proof.Machine
open Sys2Proof

/-- The four flags every requester holds (R153). -/
inductive Flag | trips | shafts | grants | hub
deriving DecidableEq, Repr

/-- Set one flag; a flag already set stays set (R153). -/
def NoticeFlags.put (f : Flag) (n : NoticeFlags) : NoticeFlags :=
  match f with
  | .trips => { n with trips := true }
  | .shafts => { n with shafts := true }
  | .grants => { n with grants := true }
  | .hub => { n with hub := true }

/-- A PRESENT console with no NOTICE entry gets one at the tail of its port's NOTICE class (R154). That its presence alone is asked, and not the
state of its port, is the model's choice (notes/assumptions/39.md). -/
def makeNoticeEntry (k : Nat) (s : State) : State :=
  match s.console k with
  | some c =>
    if c.present && !(s.port c.port).noticeQ.contains k then
      s.modPort c.port (fun q => { q with noticeQ := q.noticeQ ++ [k] })
    else s
  | none => s

/-- Set a flag of one console (R153, R154). -/
def setConsoleFlag (f : Flag) (k : Nat) (s : State) : State :=
  makeNoticeEntry k (s.modConsole k (fun c => { c with flags := c.flags.put f }))

/-- Set a flag of every requester: the line computer and every enrolled console, in ascending number (R153, R154). -/
def setFlag (f : Flag) (s : State) : State :=
  (tblIds s.consoles).foldl (fun t k => setConsoleFlag f k t)
    { s with line := { s.line with flags := s.line.flags.put f } }

/-- Set the line computer's PORTS flag (R153). -/
def setPorts (s : State) : State := { s with line := { s.line with ports := true } }

/-- The watch entry of a console for an axis (R133). -/
def watchOf (s : State) (k x : Nat) : Option Watch := (s.console k).bind (fun c => c.watches.find? (fun w => w.axis == x))

/-- Change the watch entry for one axis. -/
def updWatch (x : Nat) (f : Watch → Watch) (ws : List Watch) : List Watch := ws.map (fun w => if w.axis = x then f w else w)

/-- Make the entry of console `k` for axis `x` pending: a PRESENT console's entry that is not pending joins the tail of its
port's pending queue (R136, R137). That its presence alone is asked, and not the state of its port, is the model's choice
(notes/assumptions/39.md). -/
def markPending (k x : Nat) (s : State) : State :=
  match s.console k with
  | some c =>
    if c.present && c.watches.any (fun w => w.axis == x && !w.pending) then
      (s.setConsole k { c with watches := updWatch x (fun w => { w with pending := true }) c.watches }).modPort c.port
        (fun q => { q with valueQ := q.valueQ ++ [(k, x)] })
    else s
  | none => s

/-- One event on one axis: the entries for it that satisfy a test, in ascending console number (R136). -/
def markWhere (x : Nat) (test : Watch → Bool) (s : State) : State :=
  (tblIds s.consoles).foldl
    (fun t k => match watchOf t k x with
      | some w => if test w then markPending k x t else t
      | none => t) s

/-- One event on one axis that makes every entry for it pending (R136). -/
def markAxis (x : Nat) (s : State) : State := markWhere x (fun _ => true) s

/-- One event that concerns several axes: ascending console number, then ascending axis id (R136). -/
def markAxes (xs : List Nat) (s : State) : State :=
  (tblIds s.consoles).foldl (fun t k => xs.foldl (fun u x => markPending k x u) t) s

/-- The distance of two counts is at or above the watch band (R136). -/
def beyondBand (band : Nat) (now : Int) (last : Option Int) : Bool :=
  match last with
  | none => true
  | some v => decide (band ≤ (now - v).natAbs)

/-- Mark the watches of the axes whose shaft a trip entry covers, before or after its change (R136). -/
def markCovered (cov : List ShaftId) (s : State) : State := markAxes (tblFind (fun a => cov.contains a.shaft) s.axes) s

end Sys2Proof.Machine
end

