-- ==== Sys2Proof/Machine/Orders.lean ====
section
/-! DEFINITION. What one block orders of another: releasing an axis (R48, R49), halting a shaft (R16), a shaft's demand
change (R14, R15), and the cutting of inches and awaited trims (R11, R40). -/
namespace Sys2Proof.Machine
open Sys2Proof

/-- Enter a shaft state; a change sets SHAFTS (R18). -/
def enterState (sh : ShaftId) (st : ShaftState) (s : State) : State :=
  if (s.shaft sh).state = st then s
  else setFlag .shafts (s.setShaft sh { s.shaft sh with state := st })

/-- End the inch of a shaft early: CUT with its cause and residual to the inch requester, and the inch fields absent
(R11). -/
def cutInch (cause : CutCause) (sh : ShaftId) (s : State) : State :=
  match (s.shaft sh).inch with
  | some i => (replyTo i.requester (.cut cause i.remaining) s).setShaft sh { s.shaft sh with inch := none }
  | none => s

/-- Cut the awaited trim of an axis: CUT with its cause and residual T − C, and the await absent (R40). -/
def cutAwait (cause : CutCause) (x : Nat) (s : State) : State :=
  match s.axis x with
  | some a =>
    match a.await with
    | some w => (replyTo w.requester (.cut cause (a.t - a.c)) s).setAxis x { a with await := none }
    | none => s
  | none => s

/-- A report of an axis's cause joins those on their way to the trip unit (R52, R53). -/
def sendReport (r : Report) (s : State) : State := { s with reports := s.reports ++ [r] }

/-- Change a cause of an axis; a change makes its watch entries pending and is reported under the definition the axis then
names (R52, R53, R136). -/
def setCause (kind : CauseKind) (x : Nat) (present : Bool) (s : State) : State :=
  match s.axis x with
  | some a =>
    match kind with
    | .lag =>
      if a.lagCause = present then s
      else sendReport { axis := x, kind := .lag, defn := a.lagDef, present } (markAxis x (s.setAxis x { a with lagCause := present }))
    | .loss =>
      if a.lossCause = present then s
      else sendReport { axis := x, kind := .loss, defn := a.lossDef, present } (markAxis x (s.setAxis x { a with lossCause := present }))
  | none => s

/-- Release an axis (R48): an ENGAGED axis becomes RELEASED, C and T kept, an await cut with the cause given, the lag cause
absent; an axis already RELEASED is left as it stands. -/
def releaseAxis (cause : CutCause) (x : Nat) (s : State) : State :=
  match s.axis x with
  | some a =>
    if a.engaged then
      let s1 := cutAwait cause x s
      let s2 := markAxis x (s1.setAxis x { a with await := none, engaged := false })
      setCause .lag x false s2
    else s
  | none => s

/-- A release order: one order from block to block, which reads the axis record (R49, R173). -/
def releaseOrder (cause : CutCause) (x : Nat) : State → Progress := fun s =>
  reading (.axis x :: partyRecs s) (fun t => .on (releaseAxis cause x t)) s

/-- The shaft's own part of a halt: V and Vt 0, trip rate absent, TRIPPED (R16). -/
def haltShaft (sh : ShaftId) (s : State) : State :=
  enterState sh .tripped (s.setShaft sh { s.shaft sh with v := 0, vt := 0, tripRate := none })

/-- A halt order (R16): each axis of the shaft is read in ascending id and released where it is ENGAGED. `cause` is the cause an awaited trim is cut with: TRIPPED, or FAILED at the entry to FAILED (R175). That the
axes are released before the inch is cut is the model's choice, here and at the entry (notes/assumptions/22.md). -/
def haltOrder (cause : CutCause) (sh : ShaftId) : State → Progress := fun s =>
  (reading (.shaft sh :: partyRecs s) (fun t => .on (haltShaft sh t)) s).andThen fun t =>
    (forEach (axesOf t sh) (releaseOrder cause) t).andThen fun u => .on (cutInch .tripped sh u)

/-- The shaft takes a demand from NONE (R14). -/
def takeStop (sh : ShaftId) (rate : TripRate) (s : State) : State :=
  match (s.shaft sh).state with
  | .running | .inching | .stopping =>
    cutInch .tripped sh
      (enterState sh .tripStopping (s.setShaft sh { s.shaft sh with vt := 0, tripRate := some rate }))
  | .standby => cutInch .tripped sh (enterState sh .tripped s)
  | .tripStopping | .tripped => s

/-- The shaft takes a demand gone to NONE (R15). While FAILED a TRIPPED shaft stays TRIPPED. -/
def takeNone (sh : ShaftId) (s : State) : State :=
  match (s.shaft sh).state with
  | .tripStopping => enterState sh .stopping (s.setShaft sh { s.shaft sh with tripRate := none })
  | .tripped => if s.failed then s else enterState sh .standby s
  | .standby | .running | .inching | .stopping => s

/-- A demand change taken by a shaft: the field is written and the shaft acts on the change (R14, R15). -/
def takeDemand (sh : ShaftId) (d : Demand) (s : State) : State :=
  let old := (s.shaft sh).demand
  let t := s.setShaft sh { s.shaft sh with demand := d }
  match old, d with
  | .none, .ramp => takeStop sh .ramp t
  | .none, .quick => takeStop sh .quick t
  | .ramp, .quick =>
    if (t.shaft sh).state = .tripStopping then t.setShaft sh { t.shaft sh with tripRate := some .quick } else t
  | .ramp, .none => takeNone sh t
  | .quick, .none => takeNone sh t
  | _, _ => t

/-- What a demand write reads: the shaft, the parties, and where the demand of a TRIPPED shaft goes to NONE the condition (R15). -/
def demandRecs (sh : ShaftId) (d : Demand) (s : State) : List Rec :=
  .shaft sh :: (if d = .none ∧ (s.shaft sh).state = .tripped then [.hub] else []) ++ partyRecs s

/-- A demand write as an order from the trip unit, which reads the shaft record (R74, R173). -/
def demandOrder (sh : ShaftId) (d : Demand) : State → Progress := fun s =>
  reading (demandRecs sh d s) (fun t => .on (takeDemand sh d t)) s

end Sys2Proof.Machine
end

