-- ==== Sys2Proof/Machine/Motion.lean ====
section
/-! DEFINITION. The setpoint arithmetic (chapter 2): speed step, master advance, gear, trim and setpoint steps, strobe
timing, and the gear-reach bound. -/
namespace Sys2Proof.Machine
open Sys2Proof

/-- The signed intermediate 48 bits wide in which the setpoint engine forms its sums and products (R19). -/
def wide (v : Int) : Int := (BitVec.ofInt 48 v).toInt

/-- Floor quotient by 2^k: an arithmetic right shift of the intermediate (R19). -/
def floorShift (v : Int) (k : Nat) : Int := v / (2 ^ k : Nat)

/-- The bits shifted out, a non-negative remainder (R19). -/
def floorRem (v : Int) (k : Nat) : Nat := (v % (2 ^ k : Nat)).toNat

/-- Move `v` toward `target` by at most `rate`, never past it. -/
def approach (v target : Int) (rate : Nat) : Int :=
  if v < target then min (v + rate) target else max (v - rate) target

/-- The speed target of the shaft's state (chapter 1, principle of operation). -/
def speedTarget (sh : Shaft) : Int :=
  match sh.state with
  | .running | .inching => sh.vt
  | .standby | .stopping | .tripStopping | .tripped => 0

/-- The deceleration rate of the shaft's state (R4). -/
def decelRate (sh : Shaft) : Nat :=
  match sh.state, sh.tripRate with
  | .tripStopping, some .quick => sh.dq
  | _, _ => sh.dn

/-- The speed step (R4): the first case that applies. -/
def speedStep (sh : Shaft) : Int :=
  let target := speedTarget sh
  if sh.state = .standby ∨ sh.state = .tripped then sh.v
  else if sh.v ≠ 0 ∧ (target = 0 ∨ (0 < target ∧ sh.v < 0) ∨ (target < 0 ∧ 0 < sh.v)) then approach sh.v 0 (decelRate sh)
  else if sh.v ≠ 0 ∧ target.natAbs < sh.v.natAbs then approach sh.v target (decelRate sh)
  else approach sh.v target sh.acc

/-- A master advance as it is handed on: the angle before, the travel, the repeat counter before and after (R3, R21). -/
structure Advance where
  before    : Angle
  delta     : Int
  repBefore : Count16
  repAfter  : Count16
deriving DecidableEq, Repr

/-- The sum Σ of fraction and speed (R20). -/
def advanceSum (sh : Shaft) : Int := wide ((sh.frac.toNat : Int) + sh.v)

/-- The master advance of a shaft record whose V the speed step has set (R20, R21). -/
def masterAdvance (sh : Shaft) : Advance :=
  let delta := floorShift (advanceSum sh) 8
  let sum := wide ((sh.angle.toNat : Int) + delta)
  { before := sh.angle
    delta
    repBefore := sh.rep
    repAfter := if 1048576 ≤ sum then sh.rep + 1 else if sum < 0 then sh.rep - 1 else sh.rep }

/-- The shaft record after the master advance: new fraction, angle and repeat counter (R20, R21). -/
def advanced (sh : Shaft) : Shaft :=
  let adv := masterAdvance sh
  { sh with
    frac := BitVec.ofNat 8 (floorRem (advanceSum sh) 8)
    angle := BitVec.ofInt 20 (wide ((sh.angle.toNat : Int) + adv.delta))
    rep := adv.repAfter }

/-- The crossing of an advance: 1 forward, −1 in reverse, 0 for none (R21). -/
def crossing (sh : Shaft) : Int :=
  let sum := wide ((sh.angle.toNat : Int) + (masterAdvance sh).delta)
  if 1048576 ≤ sum then 1 else if sum < 0 then -1 else 0

/-- Δmax of a V_max (R20). -/
def deltaMax (vMax : Nat) : Nat := vMax / 256 + 1

/-- The gear-reach bound (R23). -/
def gearReach (n : Int) (shift vMax : Nat) : Bool := decide (n.natAbs * deltaMax vMax ≤ 2 ^ (shift + 23))

/-- The product P of the gear step (R22). -/
def gearProduct (a : Axis) (delta : Int) : Int := wide (delta * a.gearN + a.rem)

/-- The geared travel d (R22). -/
def gearTravel (a : Axis) (delta : Int) : Int := floorShift (gearProduct a delta) a.shift

/-- The trim change t of an ENGAGED axis: T − C clamped to ±L (R25). -/
def trimChange (a : Axis) : Int := max (-(a.slew : Int)) (min (a.slew : Int) (a.t - a.c))

/-- The gear, trim and setpoint steps of one axis (R22, R25, R26, R27). -/
def stepAxis (a : Axis) (delta : Int) : Axis :=
  let d := gearTravel a delta
  let b := { a with rem := floorRem (gearProduct a delta) a.shift, w := a.w + BitVec.ofInt 32 d }
  if a.engaged then
    { b with c := a.c + trimChange a, x := a.x + BitVec.ofInt 32 d + BitVec.ofInt 32 (trimChange a) }
  else { b with x := a.y.getD a.x }

/-- Counts from the angle before the advance to a trigger's angle (R29). -/
def anglesPast (a before : Angle) : Nat := (a - before).toNat

/-- The angle lies in the window of the advance (R29). -/
def inWindow (adv : Advance) (a : Angle) : Bool :=
  decide (1 ≤ adv.delta ∧ 1 ≤ anglesPast a adv.before ∧ (anglesPast a adv.before : Int) ≤ adv.delta)

/-- Strobe delay: floor(256·k / Δ), clamped to 255 (R30). -/
def strobeDelay (adv : Advance) (a : Angle) : Nat :=
  min 255 (wide (256 * (anglesPast a adv.before : Int)) / adv.delta).toNat

/-- Repeat number of a firing (R29). -/
def strobeRepeat (adv : Advance) (a : Angle) : Count16 :=
  if 1048576 ≤ adv.before.toNat + anglesPast a adv.before then adv.repAfter else adv.repBefore

end Sys2Proof.Machine
end

