-- ==== Sys2Proof/Machine/TripUnit.lean ====
section
/-! DEFINITION. The trip unit (chapter 4): causes, the unmatched-source set, entries of the active trip list, and what
each change hands on to shafts and axes in the order of R77. -/
namespace Sys2Proof.Machine
open Sys2Proof

/-! ### Sources and definitions -/

/-- The source a definition of kind LINE, STATION or LINK watches. -/
def specSource : SourceSpec → Option Source
  | .line n => some (.line n)
  | .station p st c => some (.station p st c)
  | .link p => some (.link p)
  | .lag | .loss | .catchall => none

/-- The definition that watches a line, station source or link; at most one does (R58). -/
def watcherOf (s : State) (src : Source) : Option Nat := (tblFind (fun d => specSource d.src = some src) s.defs).head?

/-- Axes whose drive address has a port and station, in ascending id (R71). -/
def axesAt (s : State) (p st : Nat) : List Nat := tblFind (fun a => a.port.val == p && a.station == st) s.axes

/-- Axes of a unit, in ascending id. -/
def axesOfUnit (s : State) (u : Nat) : List Nat := tblFind (fun a => a.unit == u) s.axes

/-- The shafts of some axes, in order. -/
def shaftsOf (s : State) (xs : List Nat) : List ShaftId :=
  allShafts.filter (fun sh => xs.any (fun x => match s.axis x with
    | some a => a.shaft = sh
    | none => false))

/-- The source axes a definition gives its entry as the records stand (R71). -/
def sourceAxesOf (s : State) (d : Definition) : List Nat :=
  match d.scope, d.src with
  | .source, .station p st _ => axesAt s p st
  | .source, .lag => d.presentAxes
  | .source, .loss => d.presentAxes
  | _, _ => []

/-- The coverage a definition gives its entry as the records stand (R71). -/
def coverageOf (s : State) (d : Definition) : List ShaftId :=
  match d.scope with
  | .unit u => match s.unit u with
    | some r => [r.shaft]
    | none => []
  | .shaft n => match toShaft n with
    | some i => [i]
    | none => []
  | .all => allShafts
  | .source => shaftsOf s (sourceAxesOf s d)

/-! ### Demands (R74) -/

/-- The strength of an entry: HALT and QUICK count as QUICK, RAMP as RAMP (R74). -/
def strength (s : State) (e : Entry) : Demand :=
  match s.defn e.defn with
  | some d => match d.category with
    | .ramp => .ramp
    | .quick | .halt => .quick
  | none => .none

/-- The demand of a shaft: the strongest stop its covering entries call for (R74). -/
def demandOf (s : State) (sh : ShaftId) : Demand :=
  let covering := s.trips.filter (fun e => e.coverage.contains sh)
  if covering.any (fun e => strength s e = .quick) then .quick
  else if covering.any (fun e => strength s e = .ramp) then .ramp
  else .none

/-- Form the demand of a shaft afresh and write it where it differs from the field, which is read for the comparison (R74, R173). -/
def writeDemand (sh : ShaftId) (s : State) : Progress :=
  reading [.shaft sh] (fun s => if (s.shaft sh).demand = demandOf s sh then .on s else demandOrder sh (demandOf s sh) s) s

/-- Hand a change of the list on: release orders, halt orders, demand writes, the TRIPS flag, in this order (R77).
STOPCHAIN follows from the list (`State.stopchainOpen`, R81). -/
def handOn (releases : List Nat) (halts concerned : List ShaftId) (s : State) : Progress :=
  (forEach releases (releaseOrder .tripped) s).andThen fun t =>
    (forEach halts (haltOrder .tripped) t).andThen fun u =>
      (forEach concerned writeDemand u).andThen fun v =>
        reading (consoleRecs v) (fun w => .on (setFlag .trips w)) v

/-! ### Entries (R70 to R73) -/

/-- Release orders the creation of an entry calls for (R76). -/
def releasesOf (s : State) (d : Definition) (sourceAxes : List Nat) : List Nat :=
  match d.category, d.scope with
  | .halt, .unit u => axesOfUnit s u
  | .halt, .source => sourceAxes
  | _, _ => []

/-- Halt orders the creation of an entry calls for (R75). -/
def haltsOf (d : Definition) (coverage : List ShaftId) : List ShaftId :=
  match d.category, d.scope with
  | .halt, .shaft _ => coverage
  | .halt, .all => coverage
  | _, _ => []

/-- The unit record a definition of unit scope reads. -/
def scopeRecs (s : State) (d : Definition) : List Rec :=
  match d.scope with
  | .unit u => match s.unit u with
    | some _ => [.unit u]
    | none => []
  | _ => []

/-- Create the entry of a definition at the tail of the list, RAISED, with its first source, and hand it on (R71, R77). A
definition has at most one entry (R70), so one that has its entry gets no second. -/
def createEntry (d : Nat) (first : Source) (s : State) : Progress :=
  match s.defn d, entryOf s d with
  | some df, none =>
    reading (scopeRecs s df ++ axisRecs s ++ partyRecs s) (fun s =>
      let axes := sourceAxesOf s df
      let cov := coverageOf s df
      let e : Entry := { defn := d, state := .raised, coverage := cov, sourceAxes := axes, firstSource := first, ackedBy := none }
      handOn (releasesOf s df axes) (haltsOf df cov) cov (markCovered cov { s with trips := s.trips ++ [e] })) s
  | _, _ => .on s

/-- Change the entry of a definition in its place. -/
def updEntry (d : Nat) (f : Entry → Entry) (s : State) : State :=
  { s with trips := s.trips.map (fun e => if e.defn = d then f e else e) }

/-- The entry of a definition leaves the list, with its coverage (R72), and the departure is handed on. -/
def removeEntry (d : Nat) (s : State) : Progress :=
  match entryOf s d with
  | none => .on s
  | some e =>
    reading (axisRecs s ++ partyRecs s) (fun s =>
      handOn [] [] e.coverage (markCovered e.coverage { s with trips := s.trips.filter (fun e => e.defn != d) })) s

/-- An entry changes state in its place (R72). -/
def moveEntry (d : Nat) (st : EntryState) (acked : Option Nat) (s : State) : Progress :=
  match entryOf s d with
  | none => .on s
  | some e =>
    reading (axisRecs s ++ partyRecs s) (fun s =>
      handOn [] [] [] (markCovered e.coverage (updEntry d (fun e => { e with state := st, ackedBy := acked }) s))) s

/-- An entry takes in further source axes and their shafts, in the state given (R73); what is handed on concerns the added
members only. -/
def growEntry (d : Nat) (df : Definition) (st : EntryState) (acked : Option Nat) (axes : List Nat) (s : State) : Progress :=
  match entryOf s d with
  | none => .on s
  | some e =>
    reading (axisRecs s ++ partyRecs s) (fun s =>
      let added := axes.filter (fun x => !e.sourceAxes.contains x)
      let newShafts := (shaftsOf s added).filter (fun sh => !e.coverage.contains sh)
      let cov := allShafts.filter (fun sh => e.coverage.contains sh || newShafts.contains sh)
      let e' : Entry := { e with state := st, ackedBy := acked, coverage := cov, sourceAxes := added.foldl (fun l x => insertAsc x l) e.sourceAxes }
      let halts := df.category = .halt && df.scope = .source
      handOn (if halts then added else []) [] newShafts (markCovered cov (updEntry d (fun _ => e') s))) s

/-! ### Causes (R64, R65) -/

/-- The cause of a definition comes present by a source (R65). -/
def causePresent (d : Nat) (src : Source) (s : State) : Progress :=
  match s.defn d with
  | none => .on s
  | some df =>
    let df := { df with cause := true }
    match entryOf s d with
    | none =>
      if df.maskable && s.inhibitPin then .on (s.setDefn d { df with held := true })
      else createEntry d src (s.setDefn d df)
    | some e =>
      if e.state = .cleared then growEntry d df .raised none (sourceAxesOf s df) (s.setDefn d df)
      else .on (s.setDefn d df)

/-- The cause of a definition goes absent (R65). -/
def causeAbsent (d : Nat) (s : State) : Progress :=
  match s.defn d with
  | none => .on s
  | some df =>
    match entryOf s d with
    | none => .on (s.setDefn d { df with cause := false, held := false })
    | some e =>
      let t := s.setDefn d { df with cause := false }
      match e.state with
      | .raised => moveEntry d .cleared e.ackedBy t
      | .acked => removeEntry d t
      | .cleared => .on t

/-- D0's cause: the set holds a source or the overflow mark is set (R67). -/
def catchAllCause (s : State) : Bool := !s.unmatched.isEmpty || s.overflow

/-- A source with no definition of its own comes present (R66, R67). -/
def joinUnmatched (src : Source) (s : State) : Progress :=
  if s.unmatched.contains src then .on s
  else
    let t := if s.unmatched.length < 16 then { s with unmatched := s.unmatched ++ [src] } else { s with overflow := true }
    if catchAllCause s then .on t else causePresent 0 src t

/-- A source leaves the unmatched-source set where it stands there (R66, R67). -/
def leaveUnmatched (src : Source) (s : State) : Progress :=
  if s.unmatched.contains src then
    let t := { s with unmatched := s.unmatched.filter (· != src) }
    if catchAllCause t then .on t else causeAbsent 0 t
  else .on s

/-- A line, station source or link goes present (R65, R66). -/
def sourcePresent (src : Source) (s : State) : Progress :=
  match watcherOf s src with
  | some d => causePresent d src s
  | none => joinUnmatched src s

/-- A line, station source or link goes absent (R65, R66). -/
def sourceAbsent (src : Source) (s : State) : Progress :=
  match watcherOf s src with
  | some d => causeAbsent d s
  | none => leaveUnmatched src s

/-- A station source is present: its definition's cause is, or it stands in the unmatched-source set (R63). -/
def stationPresent (s : State) (src : Source) : Bool :=
  match (watcherOf s src).bind s.defn with
  | some d => d.cause
  | none => s.unmatched.contains src

/-- The source identity of an axis's cause. -/
def causeSource : CauseKind → Nat → Source
  | .lag, x => .lag x
  | .loss, x => .loss x

/-- A report of an axis's cause, taken on its own (R64, R73). -/
def takeReport (r : Report) (s : State) : Progress :=
  reading (tripRecs s) (fun s =>
    if r.defn = 0 then
      if r.present then joinUnmatched (causeSource r.kind r.axis) s else leaveUnmatched (causeSource r.kind r.axis) s
    else match s.defn r.defn with
      | none => .on s
      | some df =>
        if r.present then
          let t := s.setDefn r.defn { df with presentAxes := insertAsc r.axis df.presentAxes }
          if df.presentAxes = [] then causePresent r.defn (causeSource r.kind r.axis) t
          else match df.scope, entryOf s r.defn with
            | .source, some e =>
              if e.sourceAxes.contains r.axis then .on t else growEntry r.defn df e.state e.ackedBy [r.axis] t
            | _, _ => .on t
        else
          let left := df.presentAxes.filter (· != r.axis)
          let t := s.setDefn r.defn { df with presentAxes := left }
          if left = [] ∧ df.presentAxes ≠ [] then causeAbsent r.defn t else .on t) s

/-- Take the reports waiting, in the order the causes changed, those that arise meanwhile included (R53, R76). -/
def drain : Nat → State → Progress
  | 0, s => .on s
  | n + 1, s =>
    match s.reports with
    | [] => .on s
    | r :: rest => (takeReport r { s with reports := rest }).andThen (drain n)

/-- Take every report that waits. Only the release of an axis makes a further report, so the fuel is enough. -/
def drainReports (s : State) : Progress := drain (s.reports.length + s.axes.length) s

/-- An event taken by the trip unit, and then the reports of the lag causes its release orders dropped (R76). -/
def tripEvent (w : State → Progress) (s : State) : Progress := (reading (tripRecs s) w s).andThen drainReports

/-! ### Definitions enrolled or amended (R59, R60) -/

/-- The source of a definition is present as the trip unit knows it: a line at its trip level, a station source in the
unmatched-source set, a port that is down with its link-seen mark set (R59, R62 to R64). -/
def sourceStands (s : State) : Source → Bool
  | .line n => (s.tripPins[n]?).getD false
  | .link n => match toPort n with
    | some p => s.linkSeen[p.val] && (s.port p).state != .up
    | none => false
  | src => s.unmatched.contains src

/-- Form the cause of a definition just enrolled or amended: a source already present is raised at once under it, and then
leaves the unmatched-source set (R59, R60). -/
def formCause (d : Nat) (s : State) : Progress :=
  match (s.defn d).bind (fun df => specSource df.src) with
  | none => .on s
  | some src =>
    if sourceStands s src then (causePresent d src s).andThen (leaveUnmatched src) else .on s

/-! ### INHIBIT (R69) and RESTART (R84) -/

/-- The first source of an entry created by the release of INHIBIT or by RESTART (R71). -/
def firstSourceOf (s : State) (df : Definition) : Source :=
  match df.src with
  | .line n => .line n
  | .station p st c => .station p st c
  | .link p => .link p
  | .lag => .lag (df.presentAxes.headD 0)
  | .loss => .loss (df.presentAxes.headD 0)
  | .catchall => s.unmatched.headD (.line 0)

/-- Enter a definition whose held flag is set (R69). -/
def enterHeld (d : Nat) (s : State) : Progress :=
  match s.defn d with
  | none => .on s
  | some df => createEntry d (firstSourceOf s df) (s.setDefn d { df with held := false })

/-- Re-enter a definition whose cause is present: held under INHIBIT where maskable, a new entry otherwise (R84). -/
def reenter (d : Nat) (s : State) : Progress :=
  match s.defn d with
  | none => .on s
  | some df =>
    if df.maskable && s.inhibitPin then .on (s.setDefn d { df with held := true })
    else createEntry d (firstSourceOf s df) s

/-- The sources that are present without a definition, in the order of R84 step 4. `former` is the set before step 2. -/
def undefinedSources (former : List Source) (s : State) : List Source :=
  let lines := ((List.range 8).map Source.line).filter (fun src => sourceStands s src && (watcherOf s src).isNone)
  let links := ((List.range 6).map Source.link).filter (fun src => sourceStands s src && (watcherOf s src).isNone)
  let ofAxis := s.axes.flatMap (fun p =>
    (if p.2.lagCause && p.2.lagDef == 0 then [Source.lag p.1] else []) ++
    (if p.2.lossCause && p.2.lossDef == 0 then [Source.loss p.1] else []))
  let stations := former.filter (fun src => match src with
    | .station _ _ _ => true
    | .line _ | .lag _ | .loss _ | .link _ => false)
  lines ++ links ++ ofAxis ++ stations

/-- The trip unit's part of RESTART (R84). -/
def restartTrips (s : State) : Progress :=
  let former := s.unmatched
  let covered := allShafts.filter (fun sh => s.trips.any (fun e => e.coverage.contains sh))
  reading (tripRecs s ++ axisRecs s ++ partyRecs s) (fun s =>
    let emptied := { s with trips := [] }
    let s1 := if s.trips = [] then emptied else setFlag .trips (markCovered covered emptied)
    (forEach allShafts writeDemand s1).andThen fun s2 =>
      let s3 := { s2 with unmatched := [], overflow := false }
      (forEach (tblFind (fun d => d.cause && d.src != .catchall) s3.defs) reenter s3).andThen fun s4 =>
        let all := undefinedSources former s4
        let s5 := { s4 with unmatched := all.take 16, overflow := decide (16 < all.length) }
        match s5.defn 0 with
        | none => .on s5
        | some d0 =>
          let s6 := s5.setDefn 0 { d0 with cause := catchAllCause s5 }
          if catchAllCause s6 then createEntry 0 (firstSourceOf s6 d0) s6 else .on s6) s

end Sys2Proof.Machine
end

