-- ==== Sys2Proof/Machine/Failed.lean ====
section
/-! DEFINITION. The entry to FAILED (R175) and how a piece of work that an event starts is settled (R174). -/
namespace Sys2Proof.Machine
open Sys2Proof

/-- The entry to FAILED (R175): the condition, HUB for every requester, and the action of a halt order on each shaft with
awaited trims cut FAILED. STOPCHAIN follows from the condition. The reports of lag causes that its own releases dropped are then taken
by the trip unit, which goes on while FAILED (R83). That the reports the stopped work had made and not yet handed over are discarded, the
causes they report staying as changed, is the model's choice (notes/assumptions/11.md). -/
def enterFailed (s : State) : State :=
  let s1 := setFlag .hub { s with hub := { s.hub with condition := .failed }, reports := [] }
  (drainReports (forEach allShafts (haltOrder .failed) s1).state).state

/-- Do a piece of work whole; where it finds a bad word, what it had changed stands and the hub enters FAILED (R174). -/
def settle (w : State → Progress) (s : State) : State :=
  match w s with
  | .on t => t
  | .stopped t => enterFailed t

/-- An event taken by the hub: none is taken while RESET is asserted (R177). -/
def event (w : State → Progress) (s : State) : State := if s.resetPin then s else settle w s

end Sys2Proof.Machine
end

