-- ==== Sys2Proof/Machine/Reception.lean ====
section
/-! DEFINITION. Ports: alignment (R162), arrival at UP (R163), port loss (R164), presence (R145, R146), and the taking of
good frames (R165). -/
namespace Sys2Proof.Machine
open Sys2Proof

/-! ### Presence -/

/-- A console's tiles are flushed, its views paused, held cleared and its hold timer stopped (R126, R128). -/
def flushConsole (k : Nat) (s : State) : State :=
  let t := s.modConsole k (fun c => { c with slots := [], held := false, holdTimer := none })
  { t with views := tblMap (fun _ v => if v.owner = k then { v with state := .paused } else v) t.views }

/-- A requester that has gone is dropped from the operations it awaits, which go on (R11, R41). -/
def dropRequester (k : Nat) (s : State) : State :=
  let t := mapShafts (fun sh => match sh.inch with
    | some i => if i.requester = some k then { sh with inch := some { i with requester := none } } else sh
    | none => sh) s
  { t with
    axes := tblMap (fun _ a => match a.await with
      | some w => if w.requester = some k then { a with await := some { w with requester := none } } else a
      | none => a) t.axes }

/-- The requester at the top of every stack, units first. -/
def holders (s : State) : List (Option Nat) :=
  s.units.map (fun p => holderOf p.2.stack) ++ s.shaftStacks.toList.map holderOf

/-- Some consoles leave every grant stack, together (R97). -/
def leaveStacks (ks : List Nat) (s : State) : State :=
  mapShaftStacks (fun st => st.filter (fun r => !ks.contains r))
    { s with units := tblMap (fun _ u => { u with stack := u.stack.filter (fun r => !ks.contains r) }) s.units }

/-- The pending entries of a console lose their flag and leave every pending queue (R139). -/
def clearPending (k : Nat) (s : State) : State :=
  mapPorts (fun q => { q with valueQ := q.valueQ.filter (fun e => e.1 != k) })
    (s.modConsole k (fun c => { c with watches := c.watches.map (fun w => { w with pending := false }) }))

/-- One console goes ABSENT, but for its grants (R146, R128, R139). -/
def consoleGone (k : Nat) (s : State) : State :=
  clearPending k (flushConsole k (dropRequester k
    (s.modConsole k (fun c => { c with present := false, flight := none, slot := none }))))

/-- The PRESENT consoles of a port, in ascending number. -/
def presentOn (s : State) (p : PortId) : List Nat := tblFind (fun c => c.port = p && c.present) s.consoles

/-- The PRESENT consoles of a port become ABSENT together (R146, R97, R98). -/
def consolesGone (p : PortId) (s : State) : State :=
  let ks := presentOn s p
  let t := leaveStacks ks (ks.foldl (fun u k => consoleGone k u) s)
  if holders t = holders s then t else setFlag .grants t

/-- An ABSENT console becomes PRESENT: its flags set in full, a NOTICE entry made, its watch entries pending in ascending
axis id, the line computer's PORTS set (R145, R139). -/
def consolePresent (k : Nat) (s : State) : State :=
  match s.console k with
  | some c =>
    if c.present then s
    else
      let t := makeNoticeEntry k (s.setConsole k { c with present := true, flags := .all })
      setPorts (c.watches.foldl (fun u w => markPending k w.axis u) t)
  | none => s

/-! ### Port states -/

/-- A change of a port's state sets PORTS (R153, R162). -/
def portTo (p : PortId) (st : PortState) (s : State) : State :=
  setPorts (s.modPort p (fun q => { q with state := st, goodRun := 0, badRun := 0 }))

/-- A port reaches UP (R163). Its five queues are emptied. After a port loss that stopped at a bad word (R174) they may hold something; that the
records behind them then stand as they are (the pending flags of watch entries, the reply slots of consoles, their in-flight records, the stray
slot) is the model's choice (notes/assumptions/37.md). -/
def portUp (p : PortId) (s : State) : Progress :=
  let t := s.modPort p (fun q =>
    { q with state := .up, goodRun := 0, badRun := 0, setpointQ := [], strobeQ := [], replyQ := [], noticeQ := [], valueQ := [] })
  (if t.linkSeen[p.val] then tripEvent (sourceAbsent (.link p.val)) t
   else .on { t with linkSeen := t.linkSeen.set p.val true }).andThen fun u => .on (setPorts u)

/-- Every egress queue of a port is emptied with the reply slots of its consoles, and the frame in sending abandoned
(R164). Nothing is then in sending until the next TRANSMITTER_FREE begins IDLE (the model's choice, notes/assumptions/32.md). -/
def emptyEgress (p : PortId) (s : State) : State :=
  let t := { s with consoles := tblMap (fun _ c => if c.port = p then { c with slot := none } else c) s.consoles }
  t.modPort p (fun q =>
    { q with setpointQ := [], strobeQ := [], replyQ := [], stray := none, noticeQ := [], sending := none })

/-- What the loss of a port reads of its consoles (R146): every console and watch set, and where one of them was PRESENT its
segment and all that its going reads. -/
def goneRecs (s : State) (p : PortId) : List Rec :=
  partyRecs s ++ (if presentOn s p = [] then [] else (presentOn s p).map .segment ++ leavingRecs s)

/-- A port leaves UP (R164), for DARK or ALIGNING. -/
def portLoss (p : PortId) (st : PortState) (s : State) : Progress :=
  let t := s.modPort p (fun q => { q with state := st, goodRun := 0, badRun := 0 })
  (reading (consoleRecs t) (fun u => .on (emptyEgress p u)) t).andThen fun t =>
  (reading (goneRecs t p) (fun u => .on (consolesGone p u)) t).andThen fun u =>
    (if u.linkSeen[p.val] then tripEvent (sourcePresent (.link p.val)) u else .on u).andThen fun v => .on (setPorts v)

/-- What the presence report of a frame reads of the console it matches, and of its watch set where it comes back (R145, R165). -/
def presenceRecs (s : State) (k : Nat) : List Rec :=
  .console k :: (match s.console k with
    | some c => if c.present then [] else [.watchSet k]
    | none => [])

/-- A good frame taken by a port: alignment, then for an UP port the presence report and the dispatch; a station outside
0 to 15 is discarded (R162, R165). -/
def receiveGood (p : PortId) (st : Nat) (dispatch : State → Progress) (s : State) : Progress :=
  reading [.port p] (fun s =>
    match (s.port p).state with
    | .dark => .on s
    | .aligning =>
      if (s.port p).goodRun < 15 then .on (s.modPort p (fun q => { q with goodRun := q.goodRun + 1 })) else portUp p s
    | .up =>
      let t := s.modPort p (fun q => { q with badRun := 0 })
      (reading (addressRecs t) (fun t =>
          match consoleAt t p st with
          | some k => reading (presenceRecs t k) (fun t => .on (consolePresent k t)) t
          | none => .on t) t).andThen fun u =>
        if st < 16 then dispatch u else .on u) s

/-- A bad frame taken by a port (R162). -/
def receiveBad (p : PortId) (s : State) : Progress :=
  reading [.port p] (fun s =>
    match (s.port p).state with
    | .dark => .on s
    | .aligning => .on (s.modPort p (fun q => { q with goodRun := 0 }))
    | .up =>
      if (s.port p).badRun < 7 then .on (s.modPort p (fun q => { q with badRun := q.badRun + 1 }))
      else portLoss p .aligning s) s

/-- Light taken by a port (R162). -/
def takeLight (p : PortId) (s : State) : Progress :=
  reading [.port p] (fun s =>
    match (s.port p).state with
    | .dark => .on (portTo p .aligning s)
    | .aligning | .up => .on s) s

/-- Loss of light taken by a port (R162). -/
def takeDark (p : PortId) (s : State) : Progress :=
  reading [.port p] (fun s =>
    match (s.port p).state with
    | .dark => .on s
    | .aligning => .on (portTo p .dark s)
    | .up => portLoss p .dark s) s

end Sys2Proof.Machine
end

