-- ==== Sys2Proof/Machine/Operands.lean ====
section
/-! DEFINITION. The taking of a request (R147): matching its sender, one in flight, FAILED, rights, and the answer of the
owning block placed as its reply. -/
namespace Sys2Proof.Machine
open Sys2Proof

/-- What the owning block answers: a reply now, or a reply held until an operation ends (R150). -/
inductive Answer
  | reply (b : ReplyBody)
  | held (a : Awaited)
deriving DecidableEq, Repr

/-- The owning block's work on a request: none where a word it reads is bad, so that it changes nothing (R174). -/
abbrev Took := Option (State × Answer)

/-- Refuse with a reason, changing nothing. -/
def refuse (why : Reason) (s : State) : Took := some (s, .reply (.refused why))

/-- Answer DONE, or NOTED where the request was clamped or found its state in place (R150). -/
def accept (noted : Bool) (res : Result) (s : State) : Took := some (s, .reply (if noted then .noted res else .done res))

/-- Read these records first; none where one holds a bad word (R174). -/
def needs (rs : List Rec) (k : State → Took) (s : State) : Took := if findsBad s rs then none else k s

/-- Do work that hands orders on, then answer; a bad word found on the way leaves no change (R174). -/
def working (w : State → Progress) (k : State → Took) (s : State) : Took :=
  match w s with
  | .on t => k t
  | .stopped _ => none

/-- Steps 2 to 6 of R147 for requester `r`: one in flight, FAILED, fit, rights, and the owning block. `code` is the request
kind (R181). Step 3 reads the condition in the hub record. Where the block finds a bad word the hub enters FAILED and the request is refused FAILED (R174).
That step 3 refuses RETIRE CONSOLE too, for which R99 speaks of a retirement going on while FAILED, is the model's choice (notes/assumptions/35.md). -/
def takeFor (code tag : Nat) (fits : Bool) (least : Rights) (work : Nat → State → Took) (r : Nat) (s : State) : State :=
  if (flightOf s r).isSome then placeBusy r code tag s
  else
    let t := setFlight r (some { kind := code, tag, awaited := none }) s
    if findsBad t [.hub] then replyInFlight r (.refused .failed) (enterFailed t)
    else if t.failed && code != 0x38 then replyInFlight r (.refused .failed) t
    else if !fits then replyInFlight r (.refused .range) t
    else match rightsOf t r with
      | none => replyInFlight r (.refused .rights) t
      | some have_ =>
        if Rights.rank have_ < Rights.rank least then replyInFlight r (.refused .rights) t
        else match work r t with
          | some (u, .reply b) => replyInFlight r b u
          | some (u, .held a) => setFlight r (some { kind := code, tag, awaited := some a }) u
          | none => replyInFlight r (.refused .failed) (enterFailed t)

/-- A request taken by the request unit: from the line computer, or from the console whose record has the frame's port and
station; another station is refused RIGHTS through the stray slot (R147, R149). -/
def handRequest (o : Origin) (code tag : Nat) (take : Nat → State → State) (s : State) : Progress :=
  match o with
  | .line => .on (take 0 s)
  | .console p st =>
    receiveGood p st (fun s =>
      reading (addressRecs s) (fun s =>
        match consoleAt s p st with
        | none => .on (placeStray p st code tag s)
        | some k => .on (take k s)) s) s

/-- A request command: its frame or its handing over by WRITE REQUEST, and all that follows (R147, R165). -/
def request (o : Origin) (code tag : Nat) (fits : Bool) (least : Rights) (work : Nat → State → Took) (s : State) : State :=
  event (handRequest o code tag (takeFor code tag fits least work)) s

/-- A request whose body does not fit: refused RANGE at step 4 of R147, kind and tag echoed (R181). -/
def misfit (o : Origin) (code tag : Nat) (s : State) : State :=
  request o code tag false .viewer (fun _ s => refuse .range s) s

/-- The request goes on where the sender holds the control point, and is refused otherwise (R95). -/
def holding (r : Nat) (cp : ControlPoint) (k : State → Took) (s : State) : Took :=
  needs [stackRec cp] (fun s =>
    match holderCheck s r cp with
    | some why => refuse why s
    | none => k s) s

/-- Keep the old value of a field that is not named. -/
def named {α : Type} (new : Option α) (old : α) : α := new.getD old

end Sys2Proof.Machine
end

