-- ==== Sys2Proof/Machine/Shafts.lean ====
section
/-! DEFINITION. Commands of the line shafts (chapter 1): the cycle event (R3), RUN, SPEED, STOP, INCH and AMEND SHAFT. -/
namespace Sys2Proof.Machine
open Sys2Proof

/-! ### The cycle event (R3) -/

/-- Stage 2's crossing counted against the inch (R10). The count that reaches 0 in INCHING starts the closing stop. That a bad console
word met there leaves the advance and the lowered count, and not the change to STOPPING, is the model's choice
(notes/assumptions/11.md). -/
def inchCross (sh : ShaftId) (cross : Int) (s : State) : Progress :=
  match (s.shaft sh).inch with
  | none => .on s
  | some i =>
    if cross = (if i.forward then 1 else -1) ∧ i.remaining ≠ 0 then
      let t := s.setShaft sh { s.shaft sh with inch := some { i with remaining := i.remaining - 1 } }
      if i.remaining = 1 ∧ (t.shaft sh).state = .inching then
        reading (consoleRecs t) (fun u => .on (enterState sh .stopping (u.setShaft sh { u.shaft sh with vt := 0 }))) t
      else .on t
    else .on s

/-- An awaited trim that C has reached is complete: NOTED or DONE to its requester, and the await absent (R39). -/
def completeAwait (x : Nat) (s : State) : State :=
  match s.axis x with
  | some a =>
    match a.await with
    | some w =>
      if a.engaged ∧ a.c = a.t then
        (replyTo w.requester (if w.noted then .noted .plain else .done .plain) s).setAxis x { a with await := none }
      else s
    | none => s
  | none => s

/-- The feedback window counts down; the step that reaches 0 makes the loss cause present (R53). -/
def countWindow (x : Nat) (s : State) : State :=
  match s.axis x with
  | some a =>
    if a.window ≠ 0 ∧ 0 < a.windowCount then
      let t := s.setAxis x { a with windowCount := a.windowCount - 1 }
      if a.windowCount = 1 then setCause .loss x true t else t
    else s
  | none => s

/-- What stage 4 reads beside an axis's own record: consoles, watch sets and the band, where the event changes C, may end an
await or raises the loss cause (R173). They are read before the steps, so that a bad one of them leaves the axis unstepped as a bad word of its own
record does (R174): the model's choice (notes/assumptions/11.md). -/
def axisReads (s : State) (x : Nat) (delta : Int) : List Rec :=
  match s.axis x with
  | some a =>
    if (stepAxis a delta).c ≠ a.c ∨ a.await.isSome ∨ (a.window ≠ 0 ∧ a.windowCount = 1) then .axis x :: .hub :: partyRecs s
    else [.axis x]
  | none => []

/-- Stage 4 for one axis: gear, trim and setpoint steps, the watch band test, the end of an awaited trim and the window
countdown (R22 to R27, R39, R53, R136). That the steps of each axis are an event of R136 of their own is the model's choice
(notes/assumptions/22.md). -/
def axisStage (delta : Int) (x : Nat) (s : State) : Progress :=
  reading (axisReads s x delta) (fun s =>
    match s.axis x with
    | none => .on s
    | some a =>
      let b := stepAxis a delta
      let t := s.setAxis x b
      let u := if b.c = a.c then t else markWhere x (fun w => beyondBand t.hub.watchBand b.c w.lastTrim) t
      .on (countWindow x (completeAwait x u))) s

/-- The frame entry of an axis (R26, R27). -/
def setpointEntry (a : Axis) : SetpointEntry :=
  { channel := a.channel, x := a.x, enable := a.engaged, trimming := a.engaged && a.c != a.t }

/-- The entries of a station's frame: the channels whose axes follow the shaft, in channel order (R54). -/
def setpointEntries (s : State) (sh : ShaftId) (p : PortId) (st : Nat) : List SetpointEntry :=
  [0, 1].flatMap (fun ch =>
    (s.axes.filter (fun q => q.2.shaft = sh && q.2.port = p && q.2.station == st && q.2.channel == ch)).map
      (fun q => setpointEntry q.2))

/-- The stations of a port that have an axis following the shaft, ascending (R54). -/
def setpointStations (s : State) (sh : ShaftId) (p : PortId) : List Nat :=
  (List.range 16).filter (fun st => setpointEntries s sh p st != [])

/-- A new frame takes the place of a waiting one for the same station and shaft, or joins the tail (R55). -/
def queueSetpoint (f : SetpointFrame) (q : List SetpointFrame) : List SetpointFrame :=
  if q.any (fun g => g.station == f.station && g.shaft = f.shaft) then
    q.map (fun g => if g.station = f.station ∧ g.shaft = f.shaft then f else g)
  else q ++ [f]

/-- A port's SETPOINT queue after the frames of one event for it, in ascending station (R54, R55). -/
def withSetpoints (sh : ShaftId) (s : State) (p : PortId) : List SetpointFrame :=
  (setpointStations s sh p).foldl
    (fun l st => queueSetpoint
      { station := st, shaft := sh, cycle := (s.shaft sh).cycle, entries := setpointEntries s sh p st } l)
    (s.port p).setpointQ

/-- The frames of one event are offered to an UP port; for another port none is formed (R54). -/
def offerSetpoints (sh : ShaftId) (s : State) (p : PortId) : State :=
  if (s.port p).state = .up then s.modPort p (fun q => { q with setpointQ := withSetpoints sh s p }) else s

/-- SETPOINT frames of one event, in ascending port (R54). -/
def setpointFrames (sh : ShaftId) (s : State) : Progress :=
  reading ((allPorts.filter (fun p => setpointStations s sh p != [])).map .port)
    (fun s => .on (allPorts.foldl (offerSetpoints sh) s)) s

/-- A firing's STROBE frame is offered to its camera's port: queued where the port is UP with fewer than 8 waiting, lost
otherwise (R109). -/
def offerStrobe (p : PortId) (f : StrobeFrame) (s : State) : State :=
  if (s.port p).state = .up ∧ (s.port p).strobeQ.length < 8 then
    s.modPort p (fun q => { q with strobeQ := q.strobeQ ++ [f] })
  else s

/-- One trigger met in the walk of an advance: examined where enabled and in the window, it takes one pass (R107, R108). That a bad port
record met where its frame is to be offered leaves its phase and sequence as they stood, and the passes already taken in the walk as
taken, is the model's choice (notes/assumptions/11.md). -/
def passTrigger (sh : ShaftId) (adv : Advance) (g : Nat) (s : State) : Progress :=
  reading [.trigger g] (fun s =>
    match s.trigger g with
    | none => .on s
    | some t =>
      if t.enabled && inWindow adv t.angle then
        let next := { t with
          phase := if t.divider ≤ t.phase + 1 then 0 else t.phase + 1
          seq := if t.phase = 0 then t.seq + 1 else t.seq }
        if t.phase = 0 then
          reading [.port t.port] (fun s =>
            let u := offerStrobe t.port
              { station := t.station, trigger := g, seq := t.seq, rep := strobeRepeat adv t.angle,
                delay := strobeDelay adv t.angle, cycle := (s.shaft sh).cycle } s
            .on { u with triggers := tblSet u.triggers g next }) s
        else .on { s with triggers := tblSet s.triggers g next }
      else .on s) s

/-- The angle of a trigger is greater than the angle before the advance. -/
def angleBeyond (s : State) (before : Angle) (g : Nat) : Bool :=
  match s.trigger g with
  | some t => before.toNat < t.angle.toNat
  | none => false

/-- The walk of a shaft's list, from the first trigger beyond the angle before the advance, on from the head with wrap
(R107). -/
def walkOf (s : State) (sh : ShaftId) (before : Angle) : List Nat :=
  let l := s.triggerLists[sh.val]
  l.filter (angleBeyond s before) ++ l.filter (fun g => !angleBeyond s before g)

/-- What the walk of a shaft's list reads to find its place: the list and the angle of every trigger in it (R107, R173). -/
def walkRecs (s : State) (sh : ShaftId) : List Rec := .triggerList sh :: s.triggerLists[sh.val].map .trigger

/-- Stage 5: the trigger unit takes the advance; none is taken while FAILED or with Δ below 1 (R107, R111). The angles of the list are
read before the first pass. -/
def takeAdvance (sh : ShaftId) (adv : Advance) (s : State) : Progress :=
  if adv.delta < 1 then .on s
  else reading [.hub] (fun s =>
    if s.failed then .on s
    else reading (walkRecs s sh) (fun s => forEach (walkOf s sh adv.before) (passTrigger sh adv) s) s) s

/-- Stage 6: a stop that has come to V = 0 ends (R5, R10). -/
def stopEnd (sh : ShaftId) (s : State) : Progress :=
  if (s.shaft sh).v = 0 then
    match (s.shaft sh).state with
    | .stopping =>
      reading (consoleRecs s) (fun s =>
        let t := enterState sh .standby (s.setShaft sh { s.shaft sh with vt := 0 })
        match (t.shaft sh).inch with
        | some i =>
          .on ((replyTo i.requester (if i.noted then .noted .plain else .done .plain) t).setShaft sh
            { t.shaft sh with inch := none })
        | none => .on t) s
    | .tripStopping =>
      reading (consoleRecs s) (fun s => .on (enterState sh .tripped (s.setShaft sh { s.shaft sh with tripRate := none }))) s
    | .standby | .running | .inching | .tripped => .on s
  else .on s

/-- Stages 1 and 2 on the shaft record alone: speed step and master advance (R3). -/
def turned (a : Shaft) : Shaft := advanced { a with v := speedStep a }

/-- Stage 3: the cycle number goes up by 1 (R3). -/
def countCycle (sh : ShaftId) (s : State) : State := s.setShaft sh { s.shaft sh with cycle := (s.shaft sh).cycle + 1 }

/-- The stages of a cycle event in their order (R3), and after stage 6 the loss causes that stage 4 raised (R53). -/
def cycleStages (sh : ShaftId) (s : State) : Progress :=
  reading [.shaft sh] (fun s =>
    let before := { s.shaft sh with v := speedStep (s.shaft sh) }
    let adv := masterAdvance before
    (inchCross sh (crossing before) (s.setShaft sh (turned (s.shaft sh)))).andThen fun s =>
      (forEach (axesOf s sh) (axisStage adv.delta) (countCycle sh s)).andThen fun s =>
        (setpointFrames sh s).andThen fun s =>
          (takeAdvance sh adv s).andThen fun s =>
            (stopEnd sh s).andThen drainReports) s

/-- The timer's next interval, at the period in the record (R2). -/
def rearm (sh : ShaftId) (s : State) : State := { s with timers := s.timers.set sh.val (s.shaft sh).period }

/-- CYCLE_EVENT (R2, R3). -/
def execCycleEvent (sh : ShaftId) (s : State) : Host.Outcome State Fault Refusal :=
  .next (event (fun t => cycleStages sh (rearm sh t)) s)

/-! ### RUN, SPEED, STOP, INCH -/

/-- A shaft in TRIP_STOPPING or TRIPPED. -/
def Shaft.inTrip (a : Shaft) : Bool := a.state = .tripStopping || a.state = .tripped

/-- The shaft a request names, its number in range, with the holder check where the request needs it (R95). -/
def onShaft (n r : Nat) (k : ShaftId → State → Took) (s : State) : Took :=
  match toShaft n with
  | none => refuse .range s
  | some sh => holding r (.shaft n) (fun s => needs (.shaft sh :: partyRecs s) (k sh) s) s

/-- The shaft's part of RUN (R6). -/
def takeRun (speed : Int) (sh : ShaftId) (s : State) : Took :=
  let a := s.shaft sh
  if a.inTrip then refuse .tripped s
  else if a.state = .running ∨ a.state = .inching then refuse .state s
  else if speed ≤ 0 ∨ a.vMax = 0 then refuse .range s
  else
    let t := cutInch .superseded sh s
    accept (decide ((a.vMax : Int) < speed)) .plain
      (enterState sh .running (t.setShaft sh { t.shaft sh with vt := min speed a.vMax }))

/-- RUN as a state change (R6). -/
def runRun (o : Origin) (tag n : Nat) (speed : Int) (s : State) : State :=
  request o 0x10 tag true .operator (fun r => onShaft n r (takeRun speed)) s

/-- RUN (R6). -/
def execRun (o : Origin) (tag n : Nat) (speed : Int) (s : State) : Host.Outcome State Fault Refusal := .next (runRun o tag n speed s)

/-- The shaft's part of SPEED, in the order of the table of R7. After pin reset a shaft is in STANDBY and has V_max 0: R17 says RANGE
there, the table gives STATE first, and the model's choice is the table (notes/assumptions/33.md). -/
def takeSpeed (speed : Int) (sh : ShaftId) (s : State) : Took :=
  let a := s.shaft sh
  if a.inTrip then refuse .tripped s
  else if a.state ≠ .running then refuse .state s
  else if speed ≤ 0 ∨ a.vMax = 0 then refuse .range s
  else accept (decide ((a.vMax : Int) < speed)) .plain (s.setShaft sh { a with vt := min speed a.vMax })

/-- SPEED as a state change (R7). -/
def runSpeed (o : Origin) (tag n : Nat) (speed : Int) (s : State) : State :=
  request o 0x11 tag true .operator (fun r => onShaft n r (takeSpeed speed)) s

/-- SPEED (R7). -/
def execSpeed (o : Origin) (tag n : Nat) (speed : Int) (s : State) : Host.Outcome State Fault Refusal := .next (runSpeed o tag n speed s)

/-- A shaft that STOP finds moving by request (R8): it enters STOPPING with Vt 0. -/
def startStop (sh : ShaftId) (s : State) : State :=
  enterState sh .stopping (s.setShaft sh { s.shaft sh with vt := 0 })

/-- The shaft's part of STOP (R8). -/
def takeStopRequest (sh : ShaftId) (s : State) : Took :=
  match (s.shaft sh).state with
  | .running => accept false .plain (startStop sh s)
  | .inching => accept false .plain (cutInch .stop sh (startStop sh s))
  | .standby | .stopping | .tripStopping | .tripped => accept false .plain s

/-- STOP as a state change (R8). -/
def runStop (o : Origin) (tag n : Nat) (s : State) : State :=
  request o 0x12 tag true .viewer (fun _ s =>
    match toShaft n with
    | none => refuse .range s
    | some sh => needs (.shaft sh :: partyRecs s) (takeStopRequest sh) s) s

/-- STOP (R8). -/
def execStop (o : Origin) (tag n : Nat) (s : State) : Host.Outcome State Fault Refusal := .next (runStop o tag n s)

/-- A speed held within a limit, its sign kept (R9, R13). -/
def clampSpeed (limit : Nat) (v : Int) : Int := max (-(limit : Int)) (min (limit : Int) v)

/-- The shaft's part of INCH (R9). -/
def takeInch (speed : Int) (repeats r : Nat) (sh : ShaftId) (s : State) : Took :=
  let a := s.shaft sh
  if a.inTrip then refuse .tripped s
  else if a.state ≠ .standby then refuse .state s
  else if repeats < 1 ∨ 255 < repeats then refuse .range s
  else if speed = 0 ∨ a.inchLimit = 0 then refuse .range s
  else
    let i : Inch := { remaining := repeats, requester := some r, noted := decide (a.inchLimit < speed.natAbs), forward := decide (0 < speed) }
    some (enterState sh .inching (s.setShaft sh { a with vt := clampSpeed a.inchLimit speed, inch := some i }), .held (.shaft sh))

/-- INCH as a state change (R9). -/
def runInch (o : Origin) (tag n : Nat) (speed : Int) (repeats : Nat) (s : State) : State :=
  request o 0x13 tag true .operator (fun r => onShaft n r (takeInch speed repeats r)) s

/-- INCH (R9). -/
def execInch (o : Origin) (tag n : Nat) (speed : Int) (repeats : Nat) (s : State) : Host.Outcome State Fault Refusal :=
  .next (runInch o tag n speed repeats s)

/-! ### AMEND SHAFT (R12, R13) -/

/-- A record under amendment with its mark for NOTED: each named field is checked against the record as amended by the
fields before it, and the first refused field gives the reason (R12, R36). -/
abbrev Edit (α : Type) := Except Reason (α × Bool)

/-- Evaluate one field where it is named. -/
def field {α β : Type} (v : Option β) (f : β → α × Bool → Edit α) (e : α × Bool) : Edit α :=
  match v with
  | none => .ok e
  | some b => f b e

/-- The period field (R12). -/
def editPeriod (p : Nat) (e : Shaft × Bool) : Edit Shaft :=
  if p ≠ 250 ∧ p ≠ 500 ∧ p ≠ 1000 ∧ p ≠ 2000 then .error .range
  else if e.1.state ≠ .standby then .error .state
  else .ok ({ e.1 with period := p }, e.2)

/-- The V_max field; `gears` are N and S of every axis of the shaft (R13, R23). -/
def editVMax (gears : List (Int × Nat)) (v : Nat) (e : Shaft × Bool) : Edit Shaft :=
  if 8388607 < v then .error .range
  else if v < e.1.v.natAbs then .error .moving
  else if gears.any (fun g => !gearReach g.1 g.2 v) then .error .range
  else .ok ({ e.1 with vMax := v, vt := clampSpeed v e.1.vt, inchLimit := min e.1.inchLimit v },
    e.2 || decide (v < e.1.vt.natAbs) || decide (v < e.1.inchLimit))

/-- The Acc field (R12). -/
def editAcc (v : Nat) (e : Shaft × Bool) : Edit Shaft :=
  if v < 1 ∨ 65535 < v then .error .range else .ok ({ e.1 with acc := v }, e.2)

/-- The Dn field; a Dq of the record that no item of the request replaces is raised with it (R12). -/
def editDn (dqNamed : Bool) (v : Nat) (e : Shaft × Bool) : Edit Shaft :=
  if v < 1 ∨ 65535 < v then .error .range
  else if !dqNamed && decide (e.1.dq < v) then .ok ({ e.1 with dn := v, dq := v }, true)
  else .ok ({ e.1 with dn := v }, e.2)

/-- The Dq field (R12). -/
def editDq (v : Nat) (e : Shaft × Bool) : Edit Shaft :=
  if v < 1 ∨ 65535 < v then .error .range
  else .ok ({ e.1 with dq := max v e.1.dn }, e.2 || decide (v < e.1.dn))

/-- The inch limit field (R13). -/
def editInchLimit (v : Nat) (e : Shaft × Bool) : Edit Shaft :=
  if 8388607 < v then .error .range
  else
    let limit := min v e.1.vMax
    let clamps := e.1.state = .inching && decide (limit < e.1.vt.natAbs)
    .ok ({ e.1 with inchLimit := limit, vt := if clamps then clampSpeed limit e.1.vt else e.1.vt },
      e.2 || decide (e.1.vMax < v) || clamps)

/-- The record AMEND SHAFT would leave (R12). -/
def editShaft (gears : List (Int × Nat)) (f : ShaftFields) (a : Shaft) : Except Reason (Shaft × Bool) := do
  let e ← field f.period editPeriod (a, false)
  let e ← field f.vMax (editVMax gears) e
  let e ← field f.acc editAcc e
  let e ← field f.dn (editDn f.dq.isSome) e
  let e ← field f.dq editDq e
  field f.inchLimit editInchLimit e

/-- N and S of the axes of a shaft. -/
def gearsOf (s : State) (sh : ShaftId) : List (Int × Nat) :=
  (s.axes.filter (fun p => p.2.shaft = sh)).map (fun p => (p.2.gearN, p.2.shift))

/-- AMEND SHAFT names at least one field (R12). -/
def namesShaftField (f : ShaftFields) : Bool :=
  f.period.isSome || f.vMax.isSome || f.acc.isSome || f.dn.isSome || f.dq.isSome || f.inchLimit.isSome

/-- AMEND SHAFT as a state change (R12, R13). -/
def runAmendShaft (o : Origin) (tag n : Nat) (f : ShaftFields) (s : State) : State :=
  request o 0x03 tag (namesShaftField f) .line (fun _ s =>
    match toShaft n with
    | none => refuse .range s
    | some sh => needs (.shaft sh :: axisRecs s) (fun s =>
        match editShaft (gearsOf s sh) f (s.shaft sh) with
        | .error why => refuse why s
        | .ok e => accept e.2 .plain (s.setShaft sh e.1)) s) s

/-- AMEND_SHAFT (R12, R13). -/
def execAmendShaft (o : Origin) (tag n : Nat) (f : ShaftFields) (s : State) : Host.Outcome State Fault Refusal :=
  .next (runAmendShaft o tag n f s)

end Sys2Proof.Machine
end

