-- ==== Sys2Proof/Machine/Axes.lean ====
section
/-! DEFINITION. Commands of the axis records (chapter 3): ENROL, AMEND, ENGAGE, RELEASE and RETIRE AXIS, and the FEEDBACK
frame. -/
namespace Sys2Proof.Machine
open Sys2Proof

/-- A record is written whole, each word with its parity (R173). -/
def wrote (r : Rec) (s : State) : State := { s with badRecs := s.badRecs.filter (· != r) }

/-- A value held within two bounds (R31). -/
def clampTo (lo hi v : Int) : Int := max lo (min hi v)

/-- Slew held within 1 to 65,535 (R31). -/
def clampSlew (l : Nat) : Nat := max 1 (min 65535 l)

/-- N and S lie in their ranges (R31). -/
def gearNInRange (n : Int) : Bool := decide (-8388608 ≤ n ∧ n ≤ 8388607)

/-- The definition exists and may take the cause: none, or the reason it may not (R34, R44). -/
def definitionFault (s : State) (kind : SourceKind) (d : Nat) : Option Reason :=
  match s.defn d with
  | none => some .absent
  | some df => if d = 0 ∨ df.src.kind = kind then none else some .range

/-- The axis that has a drive address (R33). -/
def axisAt (s : State) (p st ch : Nat) : Option Nat :=
  (tblFind (fun a => a.port.val == p && a.station == st && a.channel == ch) s.axes).head?

/-! ### ENROL AXIS -/

/-- A new axis record (R33, R35). -/
def newAxis (f : AxisEnrol) (sh : ShaftId) (p : PortId) : Axis :=
  { shaft := sh, unit := f.unit, port := p, station := f.station, channel := f.channel, gearN := f.gearN, shift := f.shift,
    rem := 0, w := 0, c := 0, t := 0, slew := clampSlew f.slew, x := 0, y := none, e := none, lagLimit := f.lagLimit,
    window := f.window, windowCount := f.window, lagDef := f.lagDef, lossDef := f.lossDef, engaged := false, lagCause := false,
    lossCause := false, await := none }

/-- The setpoint engine's part of ENROL AXIS: the checks of R34 in their order, then the record (R35). -/
def takeEnrolAxis (f : AxisEnrol) (s : State) : Took :=
  match lowestFree s.axes 0 64 with
  | none => refuse .full s
  | some x =>
    match toShaft f.shaft, toPort f.port with
    | some sh, some p =>
      if 15 < f.unit ∨ 15 < f.station ∨ 1 < f.channel then refuse .range s
      else if !gearNInRange f.gearN || decide (24 < f.shift) then refuse .range s
      else if 8388607 < f.lagLimit ∨ 255 < f.window then refuse .range s
      else match s.unit f.unit with
        | none => refuse .absent s
        | some u =>
          if (s.defn f.lagDef).isNone || (s.defn f.lossDef).isNone then refuse .absent s
          else if (definitionFault s .lag f.lagDef).isSome || (definitionFault s .loss f.lossDef).isSome then refuse .range s
          else if u.shaft ≠ sh then refuse .range s
          else if (axisAt s f.port f.station f.channel).isSome then refuse .duplicate s
          else if !gearReach f.gearN f.shift (s.shaft sh).vMax then refuse .range s
          else accept (clampSlew f.slew != f.slew) (.newId x) (wrote (.axis x) (s.setAxis x (newAxis f sh p)))
    | _, _ => refuse .range s

/-- ENROL AXIS as a state change (R34, R35). -/
def runEnrolAxis (o : Origin) (tag : Nat) (f : AxisEnrol) (s : State) : State :=
  request o 0x02 tag true .line (fun _ s =>
    needs (axisRecs s ++ [.unit f.unit, .definition f.lagDef, .definition f.lossDef] ++ ((toShaft f.shaft).map Rec.shaft).toList)
      (takeEnrolAxis f) s) s

/-- ENROL_AXIS (R34, R35). -/
def execEnrolAxis (o : Origin) (tag : Nat) (f : AxisEnrol) (s : State) : Host.Outcome State Fault Refusal :=
  .next (runEnrolAxis o tag f s)

/-! ### AMEND AXIS (R36 to R46) -/

/-- An axis record under amendment with the cause changes its fields make, in field order (R36, R43, R45). -/
structure AxisEdit where
  a       : Axis
  changes : List Report
deriving DecidableEq, Repr

/-- A cause takes a value; a change is kept as a report under the definition the record then names (R43, R52, R53). -/
def AxisEdit.cause (x : Nat) (kind : CauseKind) (present : Bool) (e : AxisEdit) : AxisEdit :=
  match kind with
  | .lag =>
    if e.a.lagCause = present then e
    else { a := { e.a with lagCause := present }, changes := e.changes ++ [{ axis := x, kind := .lag, defn := e.a.lagDef, present }] }
  | .loss =>
    if e.a.lossCause = present then e
    else { a := { e.a with lossCause := present }, changes := e.changes ++ [{ axis := x, kind := .loss, defn := e.a.lossDef, present }] }

/-- Shaft and unit (R46), but for the gear-reach bound, which is tested once after S. -/
def editPlacement (s : State) (f : AxisFields) (e : AxisEdit × Bool) : Edit AxisEdit :=
  if f.shaft.isNone && f.unit.isNone then .ok e
  else
    let a := e.1.a
    match toShaft (named f.shaft a.shaft.val) with
    | none => .error .range
    | some sh =>
      if 15 < named f.unit a.unit then .error .range
      else match f.unit with
        | none => if a.engaged then .error .state
                  else if (s.shaft a.shaft).v ≠ 0 ∨ (s.shaft sh).v ≠ 0 then .error .moving else .error .range
        | some un => match s.unit un with
          | none => .error .absent
          | some u =>
            if a.engaged then .error .state
            else if (s.shaft a.shaft).v ≠ 0 ∨ (s.shaft sh).v ≠ 0 then .error .moving
            else if u.shaft ≠ sh then .error .range
            else .ok ({ e.1 with a := { a with shaft := sh, unit := un, rem := 0 } }, e.2)

/-- N (R42). -/
def editN (s : State) (n : Int) (e : AxisEdit × Bool) : Edit AxisEdit :=
  if !gearNInRange n then .error .range
  else if (s.shaft e.1.a.shaft).v ≠ 0 then .error .moving
  else .ok ({ e.1 with a := { e.1.a with gearN := n, rem := 0 } }, e.2)

/-- S (R42). -/
def editS (s : State) (k : Nat) (e : AxisEdit × Bool) : Edit AxisEdit :=
  if 24 < k then .error .range
  else if (s.shaft e.1.a.shaft).v ≠ 0 then .error .moving
  else .ok ({ e.1 with a := { e.1.a with shift := k, rem := 0 } }, e.2)

/-- The gear-reach bound, where a field it rests on is named (R23, R36). -/
def editReach (s : State) (f : AxisFields) (e : AxisEdit × Bool) : Edit AxisEdit :=
  if (f.shaft.isSome || f.unit.isSome || f.gearN.isSome || f.shift.isSome) &&
      !gearReach e.1.a.gearN e.1.a.shift (s.shaft e.1.a.shaft).vMax then .error .range
  else .ok e

/-- L (R37). -/
def editL (l : Nat) (e : AxisEdit × Bool) : Edit AxisEdit :=
  .ok ({ e.1 with a := { e.1.a with slew := clampSlew l } }, e.2 || clampSlew l != l)

/-- T (R37). -/
def editT (t : Int) (e : AxisEdit × Bool) : Edit AxisEdit :=
  .ok ({ e.1 with a := { e.1.a with t := clampTo (-524288) 524287 t } }, e.2 || clampTo (-524288) 524287 t != t)

/-- The lag cause as a record gives it (R43, R52). -/
def lagPresent (a : Axis) : Bool :=
  match a.e with
  | some e => a.engaged && a.lagLimit != 0 && decide (a.lagLimit < e.natAbs)
  | none => false

/-- Lag limit: the lag cause is evaluated afresh (R43). -/
def editLagLimit (x v : Nat) (e : AxisEdit × Bool) : Edit AxisEdit :=
  if 8388607 < v then .error .range
  else
    let d := { e.1 with a := { e.1.a with lagLimit := v } }
    .ok (d.cause x .lag (lagPresent d.a), e.2)

/-- Window: the count is loaded and the loss cause becomes absent (R43). -/
def editWindow (x v : Nat) (e : AxisEdit × Bool) : Edit AxisEdit :=
  if 255 < v then .error .range
  else .ok ({ e.1 with a := { e.1.a with window := v, windowCount := v } }.cause x .loss false, e.2)

/-- Lag definition (R44). That ABSENT and RANGE come before IN_USE is the model's choice (notes/assumptions/18.md). -/
def editLagDef (s : State) (d : Nat) (e : AxisEdit × Bool) : Edit AxisEdit :=
  match definitionFault s .lag d with
  | some why => .error why
  | none => if e.1.a.lagCause then .error .inUse else .ok ({ e.1 with a := { e.1.a with lagDef := d } }, e.2)

/-- Loss definition (R44), its refusals in the order of the lag definition's (notes/assumptions/18.md). -/
def editLossDef (s : State) (d : Nat) (e : AxisEdit × Bool) : Edit AxisEdit :=
  match definitionFault s .loss d with
  | some why => .error why
  | none => if e.1.a.lossCause then .error .inUse else .ok ({ e.1 with a := { e.1.a with lossDef := d } }, e.2)

/-- Drive address: the named items, the others as they stand (R45, R181). -/
def editAddress (s : State) (x : Nat) (f : AxisFields) (e : AxisEdit × Bool) : Edit AxisEdit :=
  if f.port.isNone && f.station.isNone && f.channel.isNone then .ok e
  else
    let a := e.1.a
    match toPort (named f.port a.port.val) with
    | none => .error .range
    | some p =>
      let st := named f.station a.station
      let ch := named f.channel a.channel
      if 15 < st ∨ 1 < ch then .error .range
      else if s.axes.any (fun q => q.1 != x && q.2.port = p && q.2.station == st && q.2.channel == ch) then .error .duplicate
      else if a.engaged then .error .state
      else .ok ({ e.1 with a := { a with port := p, station := st, channel := ch, y := none, e := none, windowCount := a.window } }.cause x .loss false, e.2)

/-- The record AMEND AXIS would leave, with the cause changes on the way; fields in the order of R36. -/
def editAxis (s : State) (x : Nat) (f : AxisFields) (a : Axis) : Except Reason (AxisEdit × Bool) := do
  let e ← editPlacement s f ({ a, changes := [] }, false)
  let e ← field f.gearN (editN s) e
  let e ← field f.shift (editS s) e
  let e ← editReach s f e
  let e ← field f.slew editL e
  let e ← field f.trim editT e
  let e ← field f.lagLimit (editLagLimit x) e
  let e ← field f.window (editWindow x) e
  let e ← field f.lagDef (editLagDef s) e
  let e ← field f.lossDef (editLossDef s) e
  editAddress s x f e

/-- Put an amended record in place: a T named cuts an await SUPERSEDED with the T and C it had; a new T, cause changes and
an E made absent make watch entries pending; the cause changes are reported (R37, R40, R45, R136). -/
def placeAxis (x : Nat) (old : Axis) (trimNamed : Bool) (e : AxisEdit) (s : State) : State :=
  let s1 := if trimNamed then cutAwait .superseded x s else s
  let s2 := s1.setAxis x (if trimNamed then { e.a with await := none } else e.a)
  let s3 := if e.a.t = old.t then s2 else markAxis x s2
  let s4 := if e.changes = [] then s3 else markAxis x s3
  let s5 := if old.e.isSome && e.a.e.isNone then markWhere x (fun w => w.lastLag.isSome) s4 else s4
  { s5 with reports := s5.reports ++ e.changes }

/-- AMEND AXIS names a placement field (R36). -/
def placementNamed (f : AxisFields) : Bool := f.shaft.isSome || f.unit.isSome

/-- AMEND AXIS names a setting field (R36). -/
def settingNamed (f : AxisFields) : Bool :=
  f.gearN.isSome || f.shift.isSome || f.lagLimit.isSome || f.window.isSome || f.lagDef.isSome || f.lossDef.isSome ||
  f.port.isSome || f.station.isSome || f.channel.isSome

/-- AMEND AXIS names a trim field (R36). -/
def trimFieldNamed (f : AxisFields) : Bool := f.trim.isSome || f.slew.isSome

/-- The rights of the most demanding group named (R36, R152). -/
def axisLeast (f : AxisFields) : Rights :=
  if placementNamed f then .line else if settingNamed f then .setter else .operator

/-- What AMEND AXIS reads: the axis table, the named unit and definitions, the shafts, consoles and watch sets. -/
def amendAxisRecs (s : State) (f : AxisFields) : List Rec :=
  axisRecs s ++ allShafts.map .shaft ++ (f.unit.map Rec.unit).toList ++ (f.lagDef.map Rec.definition).toList ++
  (f.lossDef.map Rec.definition).toList ++ partyRecs s

/-- The axis a request names, with the holder check against the unit of its record (R36, R95). -/
def onAxis (x r : Nat) (k : Axis → State → Took) (s : State) : Took :=
  needs [.axis x] (fun s =>
    match s.axis x with
    | none => refuse .absent s
    | some a => holding r (.unit a.unit) (k a) s) s

/-- The setpoint engine's part of an AMEND AXIS without AWAIT (R36, R37). -/
def takeAmendAxis (x : Nat) (f : AxisFields) (a : Axis) (s : State) : Took :=
  needs (amendAxisRecs s f) (fun s =>
    match editAxis s x f a with
    | .error why => refuse why s
    | .ok e => working drainReports (accept e.2 .plain) (placeAxis x a f.trim.isSome e.1 s)) s

/-- AMEND AXIS as a state change (R36). -/
def runAmendAxis (o : Origin) (tag x : Nat) (f : AxisFields) (s : State) : State :=
  request o 0x03 tag (placementNamed f || settingNamed f || trimFieldNamed f) (axisLeast f) (fun r => onAxis x r (takeAmendAxis x f)) s

/-- AMEND_AXIS (R36, R37, R42 to R46). -/
def execAmendAxis (o : Origin) (tag x : Nat) (f : AxisFields) (s : State) : Host.Outcome State Fault Refusal :=
  .next (runAmendAxis o tag x f s)

/-- The setpoint engine's part of an AMEND AXIS with AWAIT (R38). -/
def takeAmendAwait (r x : Nat) (f : AxisFields) (a : Axis) (s : State) : Took :=
  if f.trim.isNone then refuse .range s
  else needs (amendAxisRecs s f) (fun s =>
    match editAxis s x f a with
    | .error why => refuse why s
    | .ok e =>
      if !e.1.a.engaged then refuse .state s
      else if e.1.a.c = e.1.a.t then working drainReports (accept e.2 .plain) (placeAxis x a true e.1 s)
      else
        let t := placeAxis x a true e.1 s
        let u := t.setAxis x { e.1.a with await := some { requester := some r, noted := e.2 } }
        working drainReports (fun v => some (v, .held (.axis x))) u) s

/-- AMEND AXIS with AWAIT as a state change (R38). -/
def runAmendAxisAwait (o : Origin) (tag x : Nat) (f : AxisFields) (s : State) : State :=
  request o 0x03 tag true (axisLeast f) (fun r => onAxis x r (takeAmendAwait r x f)) s

/-- AMEND_AXIS_AWAIT (R38). -/
def execAmendAxisAwait (o : Origin) (tag x : Nat) (f : AxisFields) (s : State) : Host.Outcome State Fault Refusal :=
  .next (runAmendAxisAwait o tag x f s)

/-! ### ENGAGE, RELEASE, RETIRE AXIS -/

/-- The signed difference X − W (R19, R47). -/
def offset (a : Axis) : Int := (a.x - a.w).toInt

/-- The setpoint engine's part of ENGAGE (R47). -/
def takeEngage (x : Nat) (a : Axis) (s : State) : Took :=
  needs (.shaft a.shaft :: (tripRecs s ++ partyRecs s)) (fun s =>
    if a.engaged then refuse .state s
    else if (s.shaft a.shaft).v ≠ 0 then refuse .moving s
    else if haltCovers s x a then refuse .tripped s
    else if 8388607 < (offset a).natAbs then refuse .far s
    else accept false .plain (markAxis x (s.setAxis x { a with c := offset a, engaged := true }))) s

/-- ENGAGE as a state change (R47). -/
def runEngage (o : Origin) (tag x : Nat) (s : State) : State :=
  request o 0x18 tag true .operator (fun r => onAxis x r (takeEngage x)) s

/-- ENGAGE (R47). -/
def execEngage (o : Origin) (tag x : Nat) (s : State) : Host.Outcome State Fault Refusal := .next (runEngage o tag x s)

/-- The setpoint engine's part of RELEASE (R48). -/
def takeRelease (x : Nat) (a : Axis) (s : State) : Took :=
  if a.engaged then
    needs (partyRecs s) (fun s => working drainReports (accept false .plain) (releaseAxis .released x s)) s
  else accept true .plain s

/-- RELEASE as a state change (R48). -/
def runRelease (o : Origin) (tag x : Nat) (s : State) : State :=
  request o 0x19 tag true .operator (fun r => onAxis x r (takeRelease x)) s

/-- RELEASE (R48). -/
def execRelease (o : Origin) (tag x : Nat) (s : State) : Host.Outcome State Fault Refusal := .next (runRelease o tag x s)

/-- The axis leaves every watch set and every pending queue (R139). -/
def unwatchAll (x : Nat) (s : State) : State :=
  mapPorts (fun q => { q with valueQ := q.valueQ.filter (fun e => e.2 != x) })
    { s with consoles := tblMap (fun _ c => { c with watches := c.watches.filter (fun w => w.axis != x) }) s.consoles }

/-- The record leaves the table and every watch set (R50, R139). -/
def dropAxis (x : Nat) (s : State) : State := unwatchAll x { s with axes := tblErase s.axes x }

/-- The setpoint engine's part of RETIRE AXIS (R50): its causes are reported dropped before the record leaves. -/
def takeRetireAxis (x : Nat) (s : State) : Took :=
  needs (.axis x :: .tripList :: partyRecs s) (fun s =>
    match s.axis x with
    | none => refuse .absent s
    | some a =>
      if a.engaged || s.trips.any (fun e => e.sourceAxes.contains x) then refuse .inUse s
      else working drainReports (fun t => accept false .plain (dropAxis x t))
        (setCause .loss x false (setCause .lag x false s))) s

/-- RETIRE AXIS as a state change (R50). -/
def runRetireAxis (o : Origin) (tag x : Nat) (s : State) : State :=
  request o 0x04 tag true .line (fun _ => takeRetireAxis x) s

/-- RETIRE_AXIS (R50). -/
def execRetireAxis (o : Origin) (tag x : Nat) (s : State) : Host.Outcome State Fault Refusal := .next (runRetireAxis o tag x s)

/-! ### FEEDBACK -/

/-- One entry of a FEEDBACK frame for the axis it matches: Y and E stored, the window reloaded and the loss cause absent,
the lag cause evaluated (R51, R52). -/
def storeFeedback (x : Nat) (a : Axis) (en : FbEntry) (s : State) : State :=
  let b := { a with y := some en.y, e := some en.e, windowCount := a.window }
  let s1 := markWhere x (fun w => beyondBand s.hub.watchBand en.e w.lastLag) (s.setAxis x b)
  setCause .lag x (lagPresent b) (setCause .loss x false s1)

/-- An entry of a FEEDBACK frame: discarded where it matches no axis or its E is out of range; the trip unit then takes the
reports it made (R51 to R53). -/
def takeFeedback (p : PortId) (st : Nat) (en : FbEntry) (s : State) : Progress :=
  reading (axisRecs s) (fun s =>
    match axisAt s p.val st en.channel with
    | none => .on s
    | some x =>
      match s.axis x with
      | none => .on s
      | some a =>
        if en.e < -8388608 ∨ 8388607 < en.e then .on s
        else reading (.hub :: partyRecs s) (fun s => drainReports (storeFeedback x a en s)) s) s

/-- A drive station: a port and station that an axis record names (R165). -/
def driveStation (s : State) (p : PortId) (st : Nat) : Bool := s.axes.any (fun q => q.2.port = p && q.2.station == st)

/-- A FEEDBACK frame at dispatch: its station is judged from the axis records, and its entries are taken in their order (R51, R165). -/
def takeFeedbackFrame (p : PortId) (st : Nat) (es : List FbEntry) (s : State) : Progress :=
  reading (axisRecs s) (fun s => if driveStation s p st then forEach es (takeFeedback p st) s else .on s) s

/-- FEEDBACK (R51, R165): a frame from a station that is no drive station is discarded. -/
def execFeedback (p : PortId) (st : Nat) (es : List FbEntry) (s : State) : Host.Outcome State Fault Refusal :=
  .next (event (receiveGood p st (takeFeedbackFrame p st es)) s)

end Sys2Proof.Machine
end

