-- ==== Sys2Proof/Machine/Trips.lean ====
section
/-! DEFINITION. Commands of the trip unit (chapter 4): definitions, TRIP frames, trip lines, INHIBIT and ACKNOWLEDGE. -/
namespace Sys2Proof.Machine
open Sys2Proof

/-! ### Definitions -/

/-- The parameters of a source lie in their ranges, and it is no CATCHALL (R59). -/
def sourceInRange : SourceSpec → Bool
  | .line n => decide (n ≤ 7)
  | .station p st c => decide (p ≤ 5 ∧ st ≤ 15 ∧ c ≤ 255)
  | .link p => decide (p ≤ 5)
  | .lag | .loss => true
  | .catchall => false

/-- The scope suits the source kind and its number is in range (R59). -/
def scopeSuits (src : SourceSpec) : Scope → Bool
  | .source => src.kind != .line && src.kind != .link
  | .unit u => decide (u ≤ 15)
  | .shaft n => decide (n ≤ 3)
  | .all => true

/-- The flag asked for on LINE 0 or LINE 1 is cleared (R59). -/
def neverMaskable (src : SourceSpec) : Bool := src = .line 0 || src = .line 1

/-- Another definition watches the same LINE, STATION or LINK source (R58, R59). -/
def watchedByOther (s : State) (d : Option Nat) (src : SourceSpec) : Bool :=
  match specSource src with
  | none => false
  | some so => s.defs.any (fun p => some p.1 != d && specSource p.2.src = some so)

/-- Why a definition's values are refused (R59): range, scope against kind, duplicate source. -/
def definitionValues (s : State) (d : Option Nat) (src : SourceSpec) (scope : Scope) : Option Reason :=
  if !sourceInRange src then some .range
  else if !scopeSuits src scope then some .range
  else if watchedByOther s d src then some .duplicate
  else none

/-- What forming the cause of a definition reads beside the trip unit's own records: the port of a link (R59). -/
def portRecs : List Rec := allPorts.map .port

/-- The trip unit's part of ENROL DEFINITION (R59). -/
def takeEnrolDefinition (src : SourceSpec) (scope : Scope) (cat : Category) (maskable : Bool) (s : State) : Took :=
  match lowestFree s.defs 1 31 with
  | none => refuse .full s
  | some d =>
    match definitionValues s none src scope with
    | some why => refuse why s
    | none =>
      let df : Definition :=
        { src, scope, category := cat, maskable := maskable && !neverMaskable src, held := false, cause := false, presentAxes := [] }
      working (tripEvent (formCause d)) (accept (maskable && neverMaskable src) (.newId d)) (wrote (.definition d) (s.setDefn d df))

/-- ENROL DEFINITION as a state change (R59). -/
def runEnrolDefinition (o : Origin) (tag : Nat) (src : SourceSpec) (scope : Scope) (cat : Category) (m : Bool) (s : State) : State :=
  request o 0x02 tag true .line (fun _ s => needs (tripRecs s ++ portRecs) (takeEnrolDefinition src scope cat m) s) s

/-- ENROL_DEFINITION (R59). -/
def execEnrolDefinition (o : Origin) (tag : Nat) (src : SourceSpec) (scope : Scope) (cat : Category) (m : Bool) (s : State) :
    Host.Outcome State Fault Refusal := .next (runEnrolDefinition o tag src scope cat m s)

/-- The line number of a source, where it has one. -/
def lineOf : SourceSpec → Option Nat
  | .line n => some n
  | _ => none

/-- The port of a source, where it has one. -/
def portOf : SourceSpec → Option Nat
  | .station p _ _ => some p
  | .link p => some p
  | _ => none

/-- The station of a source, where it has one. -/
def stationOf : SourceSpec → Option Nat
  | .station _ st _ => some st
  | _ => none

/-- The trip code of a source, where it has one. -/
def codeOf : SourceSpec → Option Nat
  | .station _ _ c => some c
  | _ => none

/-- The source as AMEND DEFINITION leaves it: named items, the old ones where they stand; none where the kind then lacks a
parameter (R60). -/
def amendedSource (f : DefFields) (old : SourceSpec) : Option SourceSpec :=
  match named f.kind old.kind with
  | .line => (f.line <|> lineOf old).map .line
  | .station => do
    let p ← f.port <|> portOf old
    let st ← f.station <|> stationOf old
    let c ← f.code <|> codeOf old
    return .station p st c
  | .lag => some .lag
  | .loss => some .loss
  | .link => (f.port <|> portOf old).map .link
  | .catchall => some .catchall

/-- The number of a unit scope. -/
def scopeUnit : Scope → Option Nat
  | .unit u => some u
  | _ => none

/-- The number of a shaft scope. -/
def scopeShaft : Scope → Option Nat
  | .shaft n => some n
  | _ => none

/-- The scope as AMEND DEFINITION leaves it; none where it lacks its number (R60). -/
def amendedScope (f : DefFields) (old : Scope) : Option Scope :=
  match named f.scope old.kind with
  | .source => some .source
  | .unit => (f.scopeNum <|> scopeUnit old).map .unit
  | .shaft => (f.scopeNum <|> scopeShaft old).map .shaft
  | .all => some .all

/-- An axis names a definition as its lag or loss definition (R60, R61). -/
def namedByAxis (s : State) (d : Nat) : Bool := s.axes.any (fun p => p.2.lagDef == d || p.2.lossDef == d)

/-- The trip unit's part of AMEND DEFINITION (R60). The maskable flag that the definition has counts as asked for where the request names
none, so that a move to LINE 0 or LINE 1 clears it with NOTED: the model's choice (notes/assumptions/19.md). -/
def takeAmendDefinition (d : Nat) (f : DefFields) (s : State) : Took :=
  if d = 0 ∨ 31 < d then refuse .range s
  else match s.defn d with
    | none => refuse .absent s
    | some df =>
      if (entryOf s d).isSome || df.held then refuse .inUse s
      else if (df.src.kind = .lag || df.src.kind = .loss) && named f.kind df.src.kind != df.src.kind && namedByAxis s d then
        refuse .inUse s
      else match amendedSource f df.src, amendedScope f df.scope with
        | some src, some scope =>
          match definitionValues s (some d) src scope with
          | some why => refuse why s
          | none =>
            let asked := named f.maskable df.maskable
            let new : Definition :=
              { df with src, scope, category := named f.category df.category, maskable := asked && !neverMaskable src }
            working (tripEvent (formCause d)) (accept (asked && neverMaskable src) .plain) (s.setDefn d new)
        | _, _ => refuse .range s

/-- AMEND DEFINITION names at least one field (R60). -/
def namesDefField (f : DefFields) : Bool :=
  f.port.isSome || f.station.isSome || f.kind.isSome || f.line.isSome || f.code.isSome || f.scope.isSome || f.scopeNum.isSome ||
  f.category.isSome || f.maskable.isSome

/-- AMEND DEFINITION as a state change (R60). -/
def runAmendDefinition (o : Origin) (tag d : Nat) (f : DefFields) (s : State) : State :=
  request o 0x03 tag (namesDefField f) .line (fun _ s => needs (tripRecs s ++ portRecs ++ axisRecs s) (takeAmendDefinition d f) s) s

/-- AMEND_DEFINITION (R60). -/
def execAmendDefinition (o : Origin) (tag d : Nat) (f : DefFields) (s : State) : Host.Outcome State Fault Refusal :=
  .next (runAmendDefinition o tag d f s)

/-- The trip unit's part of RETIRE DEFINITION (R61). -/
def takeRetireDefinition (d : Nat) (s : State) : Took :=
  if d = 0 ∨ 31 < d then refuse .range s
  else match s.defn d with
    | none => refuse .absent s
    | some df =>
      if (entryOf s d).isSome || df.held || namedByAxis s d then refuse .inUse s
      else accept false .plain { s with defs := tblErase s.defs d }

/-- RETIRE DEFINITION as a state change (R61). -/
def runRetireDefinition (o : Origin) (tag d : Nat) (s : State) : State :=
  request o 0x04 tag true .line (fun _ s => needs (.tripList :: .definition d :: axisRecs s) (takeRetireDefinition d) s) s

/-- RETIRE_DEFINITION (R61). -/
def execRetireDefinition (o : Origin) (tag d : Nat) (s : State) : Host.Outcome State Fault Refusal :=
  .next (runRetireDefinition o tag d s)

/-! ### TRIP frames, trip lines and INHIBIT -/

/-- The trip unit takes a RAISE: ignored where the source is present (R63). -/
def takeRaise (src : Source) (s : State) : Progress := if stationPresent s src then .on s else sourcePresent src s

/-- The trip unit takes a DROP: ignored where the source is absent (R63). -/
def takeDrop (src : Source) (s : State) : Progress := if stationPresent s src then sourceAbsent src s else .on s

/-- RAISE_TRIP (R63). -/
def execRaiseTrip (p : PortId) (st code : Nat) (s : State) : Host.Outcome State Fault Refusal :=
  .next (event (receiveGood p st (tripEvent (takeRaise (.station p.val st code)))) s)

/-- DROP_TRIP (R63). -/
def execDropTrip (p : PortId) (st code : Nat) (s : State) : Host.Outcome State Fault Refusal :=
  .next (event (receiveGood p st (tripEvent (takeDrop (.station p.val st code)))) s)

/-- The trip unit takes a change of level of a trip line (R62). -/
def takeLine (n : Nat) (trip : Bool) : State → Progress :=
  tripEvent (if trip then sourcePresent (.line n) else sourceAbsent (.line n))

/-- TRIP_LINE_CHANGE (R62): the level moves at once; a change of level is an event unless RESET is asserted. -/
def execTripLineChange (n : Fin 8) (trip : Bool) (s : State) : Host.Outcome State Fault Refusal :=
  let t := { s with tripPins := s.tripPins.set n.val trip }
  if s.tripPins[n.val] = trip then .next t else .next (event (takeLine n.val trip) t)

/-- A change of INHIBIT (R68, R69): the level moves at once; a change of level is an event of the trip unit, which does `w` after reading its
records, unless RESET is asserted. Which records an assertion reads is the model's choice (notes/assumptions/5.md). -/
def changeInhibit (asserted : Bool) (w : State → Progress) (s : State) : State :=
  let t := { s with inhibitPin := asserted }
  if s.inhibitPin = asserted then t else event (tripEvent w) t

/-- INHIBIT_ASSERTED (R68): it changes no flag and no entry. -/
def execInhibitAsserted (s : State) : Host.Outcome State Fault Refusal := .next (changeInhibit true .on s)

/-- The definitions whose held flag is set, in ascending index (R69). -/
def heldDefs (s : State) : List Nat := tblFind (fun d => d.held) s.defs

/-- INHIBIT_RELEASED (R69). -/
def execInhibitReleased (s : State) : Host.Outcome State Fault Refusal :=
  .next (changeInhibit false (fun t => forEach (heldDefs t) enterHeld t) s)

/-! ### ACKNOWLEDGE -/

/-- The trip unit's part of ACKNOWLEDGE of one definition (R78). -/
def takeAcknowledge (d r : Nat) (s : State) : Took :=
  if 31 < d then refuse .range s
  else match entryOf s d with
    | none => refuse .absent s
    | some e =>
      match e.state with
      | .raised => working (tripEvent (moveEntry d .acked (some r))) (accept false .plain) s
      | .cleared => working (tripEvent (removeEntry d)) (accept false .plain) s
      | .acked => accept true .plain s

/-- ACKNOWLEDGE of one definition as a state change (R78). -/
def runAcknowledge (o : Origin) (tag d : Nat) (s : State) : State :=
  request o 0x28 tag true .operator (fun r s => needs (tripRecs s) (takeAcknowledge d r) s) s

/-- ACKNOWLEDGE (R78). -/
def execAcknowledge (o : Origin) (tag d : Nat) (s : State) : Host.Outcome State Fault Refusal := .next (runAcknowledge o tag d s)

/-- One entry of the list as ACKNOWLEDGE of ALL finds it (R79). -/
def ackEntry (r : Nat) (e : Entry) (s : State) : Progress :=
  match e.state with
  | .raised => moveEntry e.defn .acked (some r) s
  | .cleared => removeEntry e.defn s
  | .acked => .on s

/-- The trip unit's part of ACKNOWLEDGE of ALL (R79). -/
def takeAcknowledgeAll (r : Nat) (s : State) : Took :=
  working (tripEvent (fun t => forEach s.trips (ackEntry r) t)) (accept (s.trips.all (fun e => e.state = .acked)) .plain) s

/-- ACKNOWLEDGE of ALL as a state change (R79). -/
def runAcknowledgeAll (o : Origin) (tag : Nat) (s : State) : State :=
  request o 0x28 tag true .operator (fun r s => needs (tripRecs s) (takeAcknowledgeAll r) s) s

/-- ACKNOWLEDGE_ALL (R79). -/
def execAcknowledgeAll (o : Origin) (tag : Nat) (s : State) : Host.Outcome State Fault Refusal := .next (runAcknowledgeAll o tag s)

end Sys2Proof.Machine
end

