-- ==== Sys2Proof/Machine/Grants.lean ====
section
/-! DEFINITION. Commands of the grant table (chapter 5): unit records, GRANT and YIELD. -/
namespace Sys2Proof.Machine
open Sys2Proof

/-! ### Units -/

/-- The grant table's part of ENROL UNIT (R88); like every ENROL it is answered with the id (R150, R182). -/
def takeEnrolUnit (u sh : Nat) (s : State) : Took :=
  match toShaft sh with
  | none => refuse .range s
  | some i =>
    if 15 < u then refuse .range s
    else if (s.unit u).isSome then refuse .duplicate s
    else accept false (.newId u) (wrote (.unit u) { s with units := tblSet s.units u { shaft := i, stack := [] } })

/-- ENROL UNIT as a state change (R88). -/
def runEnrolUnit (o : Origin) (tag u sh : Nat) (s : State) : State :=
  request o 0x02 tag true .line (fun _ s => needs [.unit u] (takeEnrolUnit u sh) s) s

/-- ENROL_UNIT (R88). -/
def execEnrolUnit (o : Origin) (tag u sh : Nat) (s : State) : Host.Outcome State Fault Refusal := .next (runEnrolUnit o tag u sh s)

/-- The grant table's part of AMEND UNIT (R89). -/
def takeAmendUnit (u sh : Nat) (s : State) : Took :=
  match toShaft sh with
  | none => refuse .range s
  | some i =>
    if 15 < u then refuse .range s
    else match s.unit u with
      | none => refuse .absent s
      | some rec_ =>
        if axisCount s u ≠ 0 then refuse .inUse s
        else accept (decide (rec_.shaft = i)) .plain { s with units := tblSet s.units u { rec_ with shaft := i } }

/-- AMEND UNIT as a state change (R89). -/
def runAmendUnit (o : Origin) (tag u sh : Nat) (s : State) : State :=
  request o 0x03 tag true .line (fun _ s => needs (.unit u :: axisRecs s) (takeAmendUnit u sh) s) s

/-- AMEND_UNIT (R89). -/
def execAmendUnit (o : Origin) (tag u sh : Nat) (s : State) : Host.Outcome State Fault Refusal := .next (runAmendUnit o tag u sh s)

/-- The grant table's part of RETIRE UNIT (R90). -/
def takeRetireUnit (u : Nat) (s : State) : Took :=
  if 15 < u then refuse .range s
  else match s.unit u with
    | none => refuse .absent s
    | some rec_ =>
      if axisCount s u ≠ 0 ∨ rec_.stack ≠ [] then refuse .inUse s
      else accept false .plain { s with units := tblErase s.units u }

/-- RETIRE UNIT as a state change (R90). -/
def runRetireUnit (o : Origin) (tag u : Nat) (s : State) : State :=
  request o 0x04 tag true .line (fun _ s => needs (.unit u :: axisRecs s) (takeRetireUnit u) s) s

/-- RETIRE_UNIT (R90). -/
def execRetireUnit (o : Origin) (tag u : Nat) (s : State) : Host.Outcome State Fault Refusal := .next (runRetireUnit o tag u s)

/-! ### GRANT and YIELD -/

/-- The number of a control point lies in its range (R86). -/
def cpInRange : ControlPoint → Bool
  | .unit u => decide (u ≤ 15)
  | .shaft n => decide (n ≤ 3)

/-- The stack of the control point a request names, after the checks of R86. -/
def onPoint (cp : ControlPoint) (k : List Nat → State → Took) (s : State) : Took :=
  if !cpInRange cp then refuse .range s
  else needs (stackRec cp :: consoleRecs s) (fun s =>
    match stackOf s cp with
    | none => refuse .absent s
    | some st => k st s) s

/-- Rank of a requester's rights as the requester table holds them (R93). -/
def rankOf (s : State) (r : Nat) : Nat := ((rightsOf s r).map Rights.rank).getD 0

/-- Write a stack whose holder has changed: GRANTS to every requester (R98). -/
def newHolder (cp : ControlPoint) (st : List Nat) (s : State) : State := setFlag .grants (setStack cp st s)

/-- The grant table's part of GRANT (R92). -/
def takeGrant (cp : ControlPoint) (r : Nat) (st : List Nat) (s : State) : Took :=
  match holderOf st with
  | none => accept false .plain (newHolder cp [r] s)
  | some h =>
    if h = r then accept true .plain s
    else if st.contains r then refuse .duplicate s
    else if rankOf s r ≤ rankOf s h then refuse .held s
    else if 4 ≤ st.length then refuse .deep s
    else accept false .plain (newHolder cp (st ++ [r]) s)

/-- GRANT as a state change (R92). -/
def runGrant (o : Origin) (tag : Nat) (cp : ControlPoint) (s : State) : State :=
  request o 0x20 tag true .operator (fun r => onPoint cp (takeGrant cp r)) s

/-- GRANT (R92). -/
def execGrant (o : Origin) (tag : Nat) (cp : ControlPoint) (s : State) : Host.Outcome State Fault Refusal := .next (runGrant o tag cp s)

/-- The grant table's part of YIELD (R94). -/
def takeYield (cp : ControlPoint) (r : Nat) (st : List Nat) (s : State) : Took :=
  if holderOf st = some r then accept false .plain (newHolder cp st.dropLast s)
  else if st.contains r then accept false .plain (setStack cp (st.filter (· != r)) s)
  else refuse .absent s

/-- YIELD as a state change (R94). -/
def runYield (o : Origin) (tag : Nat) (cp : ControlPoint) (s : State) : State :=
  request o 0x21 tag true .operator (fun r => onPoint cp (takeYield cp r)) s

/-- YIELD (R94). -/
def execYield (o : Origin) (tag : Nat) (cp : ControlPoint) (s : State) : Host.Outcome State Fault Refusal := .next (runYield o tag cp s)

end Sys2Proof.Machine
end

