-- ==== Sys2Proof/Machine/Triggers.lean ====
section
/-! DEFINITION. Commands of the trigger unit (chapter 6): ENROL, AMEND and RETIRE TRIGGER. -/
namespace Sys2Proof.Machine
open Sys2Proof

/-- A trigger stands before another by angle, then id (R101). -/
def standsBefore (a b : Angle × Nat) : Bool := a.1.toNat < b.1.toNat || (a.1 = b.1 && a.2 < b.2)

/-- Angle and id of a trigger in the table. -/
def placeKey (s : State) (g : Nat) : Angle × Nat := (((s.trigger g).map (·.angle)).getD 0, g)

/-- Insert a trigger at the place its angle and id give; the rest keep their order (R101). -/
def insertTrigger (s : State) (g : Nat) : List Nat → List Nat
  | [] => [g]
  | h :: rest => if standsBefore (placeKey s g) (placeKey s h) then g :: h :: rest else h :: insertTrigger s g rest

/-- Take a trigger out of every list (R101). -/
def unlistTrigger (g : Nat) (s : State) : State :=
  allShafts.foldl (fun t i => { t with triggerLists := t.triggerLists.set i.val (t.triggerLists[i.val].filter (· != g)) }) s

/-- Write a trigger record and place it once in the list of its shaft (R101, R103). -/
def placeTrigger (g : Nat) (t : Trigger) (s : State) : State :=
  let u := unlistTrigger g { s with triggers := tblSet s.triggers g t }
  { u with triggerLists := u.triggerLists.set t.shaft.val (insertTrigger u g u.triggerLists[t.shaft.val]) }

/-- The records of triggers and of their lists. -/
def triggerRecs (s : State) : List Rec := (tblIds s.triggers).map .trigger ++ allShafts.map .triggerList

/-- The trigger unit's part of ENROL TRIGGER (R102). -/
def takeEnrolTrigger (f : TriggerEnrol) (s : State) : Took :=
  match lowestFree s.triggers 0 48 with
  | none => refuse .full s
  | some g =>
    match toShaft f.shaft, toPort f.port with
    | some sh, some p =>
      if 15 < f.station then refuse .range s
      else if f.divider < 1 ∨ 64 < f.divider then refuse .range s
      else accept (decide (1048576 ≤ f.angle)) (.newId g)
        (wrote (.trigger g) (placeTrigger g
          { shaft := sh, port := p, station := f.station, angle := BitVec.ofNat 20 f.angle, divider := f.divider, phase := 0,
            seq := 0, enabled := f.enabled } s))
    | _, _ => refuse .range s

/-- ENROL TRIGGER as a state change (R102). -/
def runEnrolTrigger (o : Origin) (tag : Nat) (f : TriggerEnrol) (s : State) : State :=
  request o 0x02 tag true .line (fun _ s => needs (triggerRecs s) (takeEnrolTrigger f) s) s

/-- ENROL_TRIGGER (R102). -/
def execEnrolTrigger (o : Origin) (tag : Nat) (f : TriggerEnrol) (s : State) : Host.Outcome State Fault Refusal :=
  .next (runEnrolTrigger o tag f s)

/-- The shaft field (R103). -/
def editTriggerShaft (n : Nat) (e : Trigger × Bool) : Edit Trigger :=
  match toShaft n with
  | none => .error .range
  | some sh => .ok ({ e.1 with shaft := sh }, e.2)

/-- The port of the camera (R103, R105). -/
def editCameraPort (n : Nat) (e : Trigger × Bool) : Edit Trigger :=
  match toPort n with
  | none => .error .range
  | some p => .ok ({ e.1 with port := p }, e.2)

/-- The station of the camera (R103, R105). -/
def editCameraStation (n : Nat) (e : Trigger × Bool) : Edit Trigger :=
  if 15 < n then .error .range else .ok ({ e.1 with station := n }, e.2)

/-- The angle, reduced modulo 1,048,576 (R103, R104). -/
def editAngle (n : Nat) (e : Trigger × Bool) : Edit Trigger :=
  .ok ({ e.1 with angle := BitVec.ofNat 20 n }, e.2 || decide (1048576 ≤ n))

/-- The divider; the pass phase returns to 0 (R103, R105). -/
def editDivider (n : Nat) (e : Trigger × Bool) : Edit Trigger :=
  if n < 1 ∨ 64 < n then .error .range else .ok ({ e.1 with divider := n, phase := 0 }, e.2)

/-- The enabled flag (R105). -/
def editEnabled (b : Bool) (e : Trigger × Bool) : Edit Trigger := .ok ({ e.1 with enabled := b }, e.2)

/-- The record AMEND TRIGGER would leave (R103). That a request naming the port alone, or the station alone, of the camera is taken and keeps the
other is the model's choice (notes/assumptions/36.md). -/
def editTrigger (f : TriggerFields) (t : Trigger) : Except Reason (Trigger × Bool) := do
  let e ← field f.shaft editTriggerShaft (t, false)
  let e ← field f.port editCameraPort e
  let e ← field f.station editCameraStation e
  let e ← field f.angle editAngle e
  let e ← field f.divider editDivider e
  field f.enabled editEnabled e

/-- AMEND TRIGGER names a placement field (R103). -/
def cameraNamed (f : TriggerFields) : Bool := f.shaft.isSome || f.port.isSome || f.station.isSome

/-- AMEND TRIGGER names a setting field (R103). -/
def firingNamed (f : TriggerFields) : Bool := f.angle.isSome || f.divider.isSome || f.enabled.isSome

/-- The rights of the most demanding group named (R103, R152). -/
def triggerLeast (f : TriggerFields) : Rights := if cameraNamed f then .line else .setter

/-- The trigger unit's part of AMEND TRIGGER (R103): existence, holder check, fields. -/
def takeAmendTrigger (g : Nat) (f : TriggerFields) (r : Nat) (s : State) : Took :=
  match s.trigger g with
  | none => refuse .absent s
  | some t =>
    holding r (.shaft t.shaft.val) (fun s =>
      match editTrigger f t with
      | .error why => refuse why s
      | .ok e => accept e.2 .plain (placeTrigger g e.1 s)) s

/-- AMEND TRIGGER as a state change (R103). -/
def runAmendTrigger (o : Origin) (tag g : Nat) (f : TriggerFields) (s : State) : State :=
  request o 0x03 tag (cameraNamed f || firingNamed f) (triggerLeast f)
    (fun r s => needs (triggerRecs s) (takeAmendTrigger g f r) s) s

/-- AMEND_TRIGGER (R103 to R105). -/
def execAmendTrigger (o : Origin) (tag g : Nat) (f : TriggerFields) (s : State) : Host.Outcome State Fault Refusal :=
  .next (runAmendTrigger o tag g f s)

/-- The trigger unit's part of RETIRE TRIGGER (R106). -/
def takeRetireTrigger (g : Nat) (s : State) : Took :=
  match s.trigger g with
  | none => refuse .absent s
  | some _ =>
    if s.views.any (fun p => p.2.trigger == g) then refuse .inUse s
    else accept false .plain (unlistTrigger g { s with triggers := tblErase s.triggers g })

/-- RETIRE TRIGGER as a state change (R106). -/
def runRetireTrigger (o : Origin) (tag g : Nat) (s : State) : State :=
  request o 0x04 tag true .line (fun _ s => needs (triggerRecs s ++ viewRecs s) (takeRetireTrigger g) s) s

/-- RETIRE_TRIGGER (R106). -/
def execRetireTrigger (o : Origin) (tag g : Nat) (s : State) : Host.Outcome State Fault Refusal := .next (runRetireTrigger o tag g s)

end Sys2Proof.Machine
end

