-- ==== Sys2Proof/Machine/Views.lean ====
section
/-! DEFINITION. Commands of the tile router (chapter 7): views, TILE frames, HOLD, GO and the expiry of a hold timer. -/
namespace Sys2Proof.Machine
open Sys2Proof

/-! ### Views -/

/-- The owner of a view to be enrolled: the sender, or for the line computer the console it names (R115). -/
def viewOwner (r : Nat) (f : ViewEnrol) : Nat := if r = 0 then named f.owner 0 else r

/-- A new view record (R114). -/
def newView (f : ViewEnrol) (owner : Nat) : View :=
  { owner, trigger := f.trigger, firstTile := f.firstTile, lastTile := f.lastTile, state := f.state, thin := 0, lastThin := none }

/-- The tile router's part of ENROL VIEW (R115). -/
def takeEnrolView (f : ViewEnrol) (r : Nat) (s : State) : Took :=
  if r ≠ 0 ∧ f.owner.isSome ∧ f.owner ≠ some r then refuse .rights s
  else match lowestFree s.views 0 24 with
    | none => refuse .full s
    | some v =>
      let owner := viewOwner r f
      if 47 < f.trigger ∨ 255 < f.firstTile ∨ 255 < f.lastTile ∨ owner < 1 ∨ 8 < owner then refuse .range s
      else if f.lastTile < f.firstTile then refuse .range s
      else if (s.trigger f.trigger).isNone || (s.console owner).isNone then refuse .absent s
      else accept false (.newId v) (wrote (.view v) { s with views := tblSet s.views v (newView f owner) })

/-- ENROL VIEW as a state change (R115); the line computer must name the owner. -/
def runEnrolView (o : Origin) (tag : Nat) (f : ViewEnrol) (s : State) : State :=
  request o 0x02 tag (o != .line || f.owner.isSome) .viewer
    (fun r s => needs (.trigger f.trigger :: .console (viewOwner r f) :: viewRecs s) (takeEnrolView f r) s) s

/-- ENROL_VIEW (R115). -/
def execEnrolView (o : Origin) (tag : Nat) (f : ViewEnrol) (s : State) : Host.Outcome State Fault Refusal :=
  .next (runEnrolView o tag f s)

/-- The view as AMEND VIEW leaves it (R116): a trigger named, or the change to ACTIVE, clears the thin fields. That a trigger named
clears them also where the state named would keep them is the model's choice (notes/assumptions/20.md). -/
def amendedView (f : ViewFields) (v : View) : View :=
  let fresh := f.trigger.isSome || (v.state = .paused && f.state = some .active)
  { v with
    trigger := named f.trigger v.trigger
    firstTile := named f.firstTile v.firstTile
    lastTile := named f.lastTile v.lastTile
    state := named f.state v.state
    thin := if fresh then 0 else v.thin
    lastThin := if fresh then none else v.lastThin }

/-- The view a request names is tested for existence, then for its owner (R116, R117). -/
def onView (v r : Nat) (k : View → State → Took) (s : State) : Took :=
  needs [.view v] (fun s =>
    match s.view v with
    | none => refuse .absent s
    | some w => if r ≠ 0 ∧ w.owner ≠ r then refuse .rights s else k w s) s

/-- The tile router's part of AMEND VIEW (R116). -/
def takeAmendView (v : Nat) (f : ViewFields) (w : View) (s : State) : Took :=
  let n := amendedView f w
  if f.owner.isSome then refuse .range s
  else if 47 < n.trigger ∨ 255 < n.firstTile ∨ 255 < n.lastTile then refuse .range s
  else if n.lastTile < n.firstTile then refuse .range s
  else needs [.trigger n.trigger] (fun s =>
    if f.trigger.isSome && (s.trigger n.trigger).isNone then refuse .absent s
    else accept (decide (f.state = some w.state)) .plain { s with views := tblSet s.views v n }) s

/-- AMEND VIEW names at least one field (R116). -/
def namesViewField (f : ViewFields) : Bool :=
  f.owner.isSome || f.trigger.isSome || f.firstTile.isSome || f.lastTile.isSome || f.state.isSome

/-- AMEND VIEW as a state change (R116). -/
def runAmendView (o : Origin) (tag v : Nat) (f : ViewFields) (s : State) : State :=
  request o 0x03 tag (namesViewField f) .viewer (fun r => onView v r (takeAmendView v f)) s

/-- AMEND_VIEW (R116). -/
def execAmendView (o : Origin) (tag v : Nat) (f : ViewFields) (s : State) : Host.Outcome State Fault Refusal :=
  .next (runAmendView o tag v f s)

/-- RETIRE VIEW as a state change (R117). -/
def runRetireView (o : Origin) (tag v : Nat) (s : State) : State :=
  request o 0x04 tag true .viewer
    (fun r => onView v r (fun _ s => accept false .plain { s with views := tblErase s.views v })) s

/-- RETIRE_VIEW (R117). -/
def execRetireView (o : Origin) (tag v : Nat) (s : State) : Host.Outcome State Fault Refusal := .next (runRetireView o tag v s)

/-! ### TILE frames -/

/-- A firing sequence passes a thin level (R119). -/
def passesThin (thin : Nat) (seq : Count16) : Bool := seq.toNat % 2 ^ thin == 0

/-- A view matches a tile (R119). -/
def matchesView (t : Tile) (v : View) : Bool :=
  v.state = .active && v.trigger == t.trigger && decide (v.firstTile ≤ t.index ∧ t.index ≤ v.lastTile) && passesThin v.thin t.seq

/-- The raise rule for one view (R121). -/
def raiseThin (seq : Count16) (v : View) : View :=
  if 3 ≤ v.thin ∨ v.lastThin = some seq then v else { v with thin := v.thin + 1, lastThin := some seq }

/-- The raise rule for the matching views of a console (R121). -/
def raiseViews (k : Nat) (ids : List Nat) (seq : Count16) (s : State) : State :=
  { s with views := tblMap (fun i v => if ids.contains i && v.owner == k then raiseThin seq v else v) s.views }

/-- One owner console takes a tile (R120); `ids` are the views that match. -/
def storeTile (t : Tile) (ids : List Nat) (k : Nat) (s : State) : Progress :=
  reading [.console k, .segment k] (fun s =>
    match s.console k with
    | none => .on s
    | some c =>
      if !c.present then .on s
      else if 32 ≤ c.slots.length then .on (raiseViews k ids t.seq s)
      else
        let u := s.setConsole k { c with slots := c.slots ++ [t] }
        .on (if c.high ≤ c.slots.length + 1 then raiseViews k ids t.seq u else u)) s

/-- Owners of some views, in ascending console number (R120). -/
def ownersOf (s : State) (ids : List Nat) : List Nat :=
  (tblIds s.consoles).filter (fun k => ids.any (fun i => match s.view i with
    | some v => v.owner == k
    | none => false))

/-- The tile router takes a TILE frame (R119, R120). -/
def takeTile (t : Tile) (s : State) : Progress :=
  reading [.hub] (fun s =>
    if s.failed ∨ t.payload.length ≠ 1024 ∨ (s.trigger t.trigger).isNone then .on s
    else reading (viewRecs s) (fun s =>
      let ids := tblFind (matchesView t) s.views
      forEach (ownersOf s ids) (storeTile t ids) s) s) s

/-- A camera station: a port and station that a trigger record names (R165). -/
def cameraStation (s : State) (p : PortId) (st : Nat) : Bool := s.triggers.any (fun q => q.2.port = p && q.2.station == st)

/-- TILE (R119, R165): a frame from a station that is no camera station is discarded. -/
def execTile (p : PortId) (st g : Nat) (seq : Count16) (ix : Nat) (last : Bool) (image : List Byte) (s : State) :
    Host.Outcome State Fault Refusal :=
  .next (event (receiveGood p st (fun s =>
    reading ((tblIds s.triggers).map .trigger) (fun s =>
      if cameraStation s p st then takeTile { trigger := g, seq, index := ix, last, payload := image } s else .on s) s)) s)

/-! ### HOLD, GO, the hold timer -/

/-- A HOLD or GO frame is matched to a console by its port and station, and discarded where it matches none (R124). -/
def onConsoleFrame (p : PortId) (st : Nat) (k : Nat → Console → State → Progress) : State → Progress :=
  receiveGood p st (fun s =>
    reading (addressRecs s) (fun s =>
      match consoleAt s p st with
      | none => .on s
      | some i => match s.console i with
        | none => .on s
        | some c => reading [.segment i, .hub] (k i c) s) s)

/-- HOLD (R124): a second HOLD does not restart the timer. -/
def execHold (p : PortId) (st : Nat) (s : State) : Host.Outcome State Fault Refusal :=
  .next (event (onConsoleFrame p st (fun i c s =>
    .on (if c.held then s else s.setConsole i { c with held := true, holdTimer := some s.hub.holdLimit }))) s)

/-- GO (R125). -/
def execGo (p : PortId) (st : Nat) (s : State) : Host.Outcome State Fault Refusal :=
  .next (event (onConsoleFrame p st (fun i c s =>
    .on (if c.held then s.setConsole i { c with held := false, holdTimer := none } else s))) s)

/-- HOLD_TIMER_EXPIRY (R126): it comes only where the timer runs. -/
def execHoldTimerExpiry (k : Nat) (s : State) : Host.Outcome State Fault Refusal :=
  .next (event (fun s =>
    match s.console k with
    | none => .on s
    | some c =>
      if c.holdTimer.isNone then .on s
      else reading (.console k :: .segment k :: viewRecs s) (fun s => .on (flushConsole k s)) s) s)

end Sys2Proof.Machine
end

