-- ==== Sys2Proof/Machine/Watches.lean ====
section
/-! DEFINITION. Commands of the watch unit (chapter 8): WATCH and UNWATCH. -/
namespace Sys2Proof.Machine
open Sys2Proof

/-- An entry joins a watch set, which is kept in ascending axis id (R133). -/
def joinWatch (x : Nat) : List Watch → List Watch
  | [] => [{ axis := x, pending := false, lastTrim := none, lastLag := none }]
  | w :: ws =>
    if x < w.axis then { axis := x, pending := false, lastTrim := none, lastLag := none } :: w :: ws else w :: joinWatch x ws

/-- The watch unit's part of WATCH (R134): a new entry is made pending at once. -/
def takeWatch (x r : Nat) (s : State) : Took :=
  match s.console r with
  | none => refuse .rights s
  | some c =>
    if 63 < x then refuse .range s
    else if (s.axis x).isNone then refuse .absent s
    else if c.watches.any (fun w => w.axis == x) then accept true .plain s
    else if 8 ≤ c.watches.length then refuse .full s
    else accept false .plain (markPending r x (s.setConsole r { c with watches := joinWatch x c.watches }))

/-- WATCH as a state change (R134); the line computer has no watch set. -/
def runWatch (o : Origin) (tag x : Nat) (s : State) : State :=
  request o 0x30 tag true .viewer (fun r s =>
    if r = 0 then refuse .rights s
    else needs [.console r, .watchSet r, .axis x] (takeWatch x r) s) s

/-- WATCH (R134). -/
def execWatch (o : Origin) (tag x : Nat) (s : State) : Host.Outcome State Fault Refusal := .next (runWatch o tag x s)

/-- The entry of console `r` for axis `x` leaves its set and its port's pending queue (R135). -/
def dropWatch (x r : Nat) (c : Console) (s : State) : State :=
  (s.setConsole r { c with watches := c.watches.filter (fun w => w.axis != x) }).modPort c.port
    (fun q => { q with valueQ := q.valueQ.filter (· != (r, x)) })

/-- The watch unit's part of UNWATCH (R135). -/
def takeUnwatch (x r : Nat) (s : State) : Took :=
  match s.console r with
  | none => refuse .rights s
  | some c =>
    if 63 < x then refuse .range s
    else if c.watches.any (fun w => w.axis == x) then accept false .plain (dropWatch x r c s)
    else refuse .absent s

/-- UNWATCH as a state change (R135); the line computer has no watch set. -/
def runUnwatch (o : Origin) (tag x : Nat) (s : State) : State :=
  request o 0x31 tag true .viewer (fun r s =>
    if r = 0 then refuse .rights s
    else needs [.console r, .watchSet r] (takeUnwatch x r) s) s

/-- UNWATCH (R135). -/
def execUnwatch (o : Origin) (tag x : Nat) (s : State) : Host.Outcome State Fault Refusal := .next (runUnwatch o tag x s)

end Sys2Proof.Machine
end

