-- ==== Sys2Proof/Machine/Consoles.lean ====
section
/-! DEFINITION. Commands on console records (chapter 9): ENROL, AMEND and RETIRE CONSOLE. -/
namespace Sys2Proof.Machine
open Sys2Proof

/-- Rights a console may have (R141). -/
def consoleRights : Rights → Bool
  | .viewer | .operator | .setter => true
  | .line => false

/-- The marks lie in their ranges, the low below the high (R142). -/
def marksFit (high low : Nat) : Bool := decide (1 ≤ high ∧ high ≤ 32 ∧ low ≤ 31 ∧ low < high)

/-- A new console record (R141), with its empty segment and watch set (R118, R133). -/
def newConsole (f : ConsoleEnrol) (p : PortId) : Console :=
  { port := p, station := f.station, rights := f.rights, present := false, high := named f.high 24, low := named f.low 8,
    flags := .clear, flight := none, slot := none, slots := [], held := false, holdTimer := none, watches := [] }

/-- The console record, its segment and its watch set are written (R142, R173). -/
def wroteConsole (k : Nat) (s : State) : State :=
  wrote (.watchSet k) (wrote (.segment k) (wrote (.console k) (wrote (.address k) s)))

/-- The request unit's part of ENROL CONSOLE (R142). -/
def takeEnrolConsole (f : ConsoleEnrol) (s : State) : Took :=
  match lowestFree s.consoles 1 8 with
  | none => refuse .full s
  | some k =>
    match toPort f.port with
    | none => refuse .range s
    | some p =>
      if 15 < f.station ∨ consoleRights f.rights = false then refuse .range s
      else if !marksFit (named f.high 24) (named f.low 8) then refuse .range s
      else if (consoleAt s p f.station).isSome then refuse .duplicate s
      else accept false (.newId k) (wroteConsole k (s.setConsole k (newConsole f p)))

/-- ENROL CONSOLE as a state change (R142). -/
def runEnrolConsole (o : Origin) (tag : Nat) (f : ConsoleEnrol) (s : State) : State :=
  request o 0x02 tag true .line (fun _ s => needs (consoleRecs s) (takeEnrolConsole f) s) s

/-- ENROL_CONSOLE (R142). -/
def execEnrolConsole (o : Origin) (tag : Nat) (f : ConsoleEnrol) (s : State) : Host.Outcome State Fault Refusal :=
  .next (runEnrolConsole o tag f s)

/-- A console's reply, NOTICE entry and pending entries leave the old port's classes for the tail of the new port's (R137,
R143). -/
def movePlaces (k : Nat) (old new : PortId) (s : State) : State :=
  if old = new then s
  else
    let q := s.port old
    let hasReply := q.replyQ.contains (.console k)
    let hasNotice := q.noticeQ.contains k
    let values := q.valueQ.filter (fun e => e.1 == k)
    let t := s.setPort old { q with
      replyQ := q.replyQ.filter (· != .console k), noticeQ := q.noticeQ.filter (· != k), valueQ := q.valueQ.filter (fun e => e.1 != k) }
    t.modPort new (fun n =>
      { n with
        replyQ := n.replyQ ++ (if hasReply then [.console k] else []), noticeQ := n.noticeQ ++ (if hasNotice then [k] else []),
        valueQ := n.valueQ ++ values })

/-- The request unit's part of AMEND CONSOLE (R143). That DUPLICATE comes before STATE where both apply is the model's choice
(notes/assumptions/21.md). -/
def takeAmendConsole (k : Nat) (f : ConsoleFields) (s : State) : Took :=
  match s.console k with
  | none => refuse .absent s
  | some c =>
    match toPort (named f.port c.port.val) with
    | none => refuse .range s
    | some p =>
      let c' := { c with
        port := p, station := named f.station c.station, rights := named f.rights c.rights, high := named f.high c.high, low := named f.low c.low }
      if 15 < c'.station ∨ consoleRights c'.rights = false then refuse .range s
      else if !marksFit c'.high c'.low then refuse .range s
      else if s.consoles.any (fun q => q.1 != k && q.2.port = p && q.2.station == c'.station) then refuse .duplicate s
      else if f.port.isSome && c.present && (s.port p).state != .up then refuse .state s
      else accept false .plain (movePlaces k c.port p (s.setConsole k c'))

/-- AMEND CONSOLE names at least one field (R143). -/
def namesConsoleField (f : ConsoleFields) : Bool :=
  f.port.isSome || f.station.isSome || f.rights.isSome || f.high.isSome || f.low.isSome

/-- AMEND CONSOLE as a state change (R143). -/
def runAmendConsole (o : Origin) (tag k : Nat) (f : ConsoleFields) (s : State) : State :=
  request o 0x03 tag (namesConsoleField f) .line
    (fun _ s => needs (consoleRecs s ++ portRecs) (takeAmendConsole k f) s) s

/-- AMEND_CONSOLE (R143). -/
def execAmendConsole (o : Origin) (tag k : Nat) (f : ConsoleFields) (s : State) : Host.Outcome State Fault Refusal :=
  .next (runAmendConsole o tag k f s)

/-- A console leaves no trace at a port: its places leave the classes, and where it was the last-served console none is (R129, R144). -/
def forgetConsole (k : Nat) (q : Port) : Port :=
  { q with
    lastServed := if q.lastServed = some k then none else q.lastServed
    replyQ := q.replyQ.filter (· != .console k), noticeQ := q.noticeQ.filter (· != k), valueQ := q.valueQ.filter (fun e => e.1 != k) }

/-- Each block's part in the retirement of a console (R144): request unit, grant table, tile router, watch unit. The last-served console
becomes absent at every port where it is this one, a port it was moved from included (R129, R143, R144). -/
def retireConsole (k : Nat) (s : State) : State :=
  let s1 := mapPorts (forgetConsole k) (dropRequester k s)
  let s2 := leaveStacks [k] s1
  let s3 := if holders s2 = holders s1 then s2 else setFlag .grants s2
  mapPorts (fun q => { q with noticeQ := q.noticeQ.filter (· != k) })
    { s3 with views := s3.views.filter (fun p => p.2.owner != k), consoles := tblErase s3.consoles k }

/-- What a console's retirement reads. -/
def retireRecs (s : State) : List Rec :=
  consoleRecs s ++ portRecs ++ leavingRecs s

/-- RETIRE CONSOLE as a state change (R144). -/
def runRetireConsole (o : Origin) (tag k : Nat) (s : State) : State :=
  request o 0x04 tag true .line (fun _ s =>
    needs (retireRecs s) (fun s =>
      if (s.console k).isSome then accept false .plain (retireConsole k s) else refuse .absent s) s) s

/-- RETIRE_CONSOLE (R144). -/
def execRetireConsole (o : Origin) (tag k : Nat) (s : State) : Host.Outcome State Fault Refusal := .next (runRetireConsole o tag k s)

end Sys2Proof.Machine
end

