-- ==== Sys2Proof/Machine/Images.lean ====
section
/-! DEFINITION. Record images (R182), the STATUS report (R157), and the bytes of replies and of outbound frames (R179,
R182). -/
namespace Sys2Proof.Machine
open Sys2Proof

/-! ### Items -/

/-- One item of an image with an unsigned or signed value of a size (R182). -/
def item (code size : Nat) (v : Int) : Item := { code, value := leSigned size v }

/-- An item that is left out where the field is absent (R182). -/
def optItems (code size : Nat) (v : Option Int) : List Item := (v.map (item code size)).toList

/-- A list item: count, then the elements (R182). -/
def listItem (code : Nat) (elements : List (List Byte)) : Item :=
  { code, value := BitVec.ofNat 8 elements.length :: elements.flatten }

/-- A set-or-clear value. -/
def bit (b : Bool) : Int := if b then 1 else 0

/-- A requester id or FFh where absent (R180). -/
def orFF (v : Option Nat) : Nat := v.getD 0xFF

/-- Shaft state codes (R180). -/
def shaftStateCode : ShaftState → Nat
  | .standby => 0 | .running => 1 | .inching => 2 | .stopping => 3 | .tripStopping => 4 | .tripped => 5

/-- Demand codes (R180). -/
def demandCode : Demand → Nat
  | .none => 0 | .ramp => 1 | .quick => 2

/-- Trip rate codes (R180). -/
def tripRateCode : TripRate → Nat
  | .ramp => 1 | .quick => 2

/-- Entry state codes (R180). -/
def entryStateCode : EntryState → Nat
  | .raised => 1 | .acked => 2 | .cleared => 3

/-- Port state codes (R180). -/
def portStateCode : PortState → Nat
  | .dark => 0 | .aligning => 1 | .up => 2

/-- Hub condition codes (R180). -/
def conditionCode : Condition → Nat
  | .normal => 0 | .failed => 1

/-- Reason codes (R180). -/
def reasonCode : Reason → Nat
  | .busy => 1 | .rights => 2 | .held => 3 | .unheld => 4 | .state => 5 | .moving => 6 | .tripped => 7 | .absent => 8
  | .inUse => 9 | .full => 10 | .range => 11 | .deep => 12 | .duplicate => 13 | .far => 14 | .failed => 15

/-- Cut cause codes (R180). -/
def cutCode : CutCause → Nat
  | .stop => 1 | .tripped => 2 | .superseded => 3 | .released => 4 | .restart => 5 | .failed => 6

/-- A source in 4 bytes (R180). -/
def sourceImage : Source → List Byte
  | .line n => [1, BitVec.ofNat 8 n, 0, 0]
  | .station p st c => [2, BitVec.ofNat 8 p, BitVec.ofNat 8 st, BitVec.ofNat 8 c]
  | .lag x => [3, BitVec.ofNat 8 x, 0, 0]
  | .loss x => [4, BitVec.ofNat 8 x, 0, 0]
  | .link p => [5, BitVec.ofNat 8 p, 0, 0]

/-- The coverage byte: bit s for shaft s (R182). -/
def coverageByte (cov : List ShaftId) : Nat := (allShafts.map (fun sh => if cov.contains sh then 2 ^ sh.val else 0)).sum

/-- The notice flags byte of a NOTICE frame (R179). -/
def noticeByte (n : NoticeFlags) : Nat :=
  (if n.trips then 1 else 0) + (if n.shafts then 2 else 0) + (if n.grants then 4 else 0) + (if n.hub then 8 else 0)

/-- Requester ids of a grant stack, bottom to top (R182). -/
def stackItem (st : List Nat) : Item := listItem 0x5C (st.map (fun r => [BitVec.ofNat 8 r]))

/-- Axis ids as elements of a list item. -/
def axisElements (xs : List Nat) : List (List Byte) := xs.map (fun x => [BitVec.ofNat 8 x])

/-! ### Images, each in ascending order of field code (R182) -/

/-- The image of a shaft with the grant stack of its control point (R1, R87). -/
def shaftImage (a : Shaft) (st : List Nat) : List Item :=
  [item 0x01 2 a.period, item 0x02 4 a.vMax, item 0x03 2 a.acc, item 0x04 2 a.dn, item 0x05 2 a.dq, item 0x06 4 a.inchLimit,
   item 0x50 1 (shaftStateCode a.state), item 0x51 4 a.v, item 0x52 4 a.vt, item 0x53 1 a.frac.toNat, item 0x54 4 a.angle.toNat,
   item 0x55 2 a.rep.toNat, item 0x56 2 a.cycle.toNat, item 0x57 1 (demandCode a.demand)] ++
  optItems 0x58 1 (a.tripRate.map (fun r => (tripRateCode r : Int))) ++
  optItems 0x59 1 (a.inch.map (fun i => (i.remaining : Int))) ++
  optItems 0x5A 1 ((a.inch.bind (·.requester)).map (fun r => (r : Int))) ++
  optItems 0x5B 1 (a.inch.map (fun i => bit i.noted)) ++ [stackItem st]

/-- The image of an axis (R33). -/
def axisImage (a : Axis) : List Item :=
  [item 0x10 1 a.shaft.val, item 0x11 1 a.unit, item 0x12 1 a.port.val, item 0x13 1 a.station, item 0x14 1 a.channel,
   item 0x15 4 a.gearN, item 0x16 1 a.shift, item 0x17 4 a.slew, item 0x18 4 a.t, item 0x1A 4 a.lagLimit, item 0x1B 2 a.window,
   item 0x1C 1 a.lagDef, item 0x1D 1 a.lossDef, item 0x60 4 a.rem, item 0x61 4 a.w.toNat, item 0x62 4 a.c, item 0x63 4 a.x.toNat] ++
  optItems 0x64 4 (a.y.map (fun y => (y.toNat : Int))) ++ optItems 0x65 4 a.e ++
  [item 0x66 1 a.windowCount, item 0x67 1 (bit a.engaged), item 0x68 1 (bit a.lagCause), item 0x69 1 (bit a.lossCause)] ++
  (a.await.map (fun w =>
    { code := 0x6A, value := [BitVec.ofNat 8 (orFF w.requester), boolByte w.noted] : Item })).toList

/-- The image of a unit (R87). -/
def unitImage (s : State) (u : Nat) (r : UnitRec) : List Item :=
  [item 0x10 1 r.shaft.val, stackItem r.stack, item 0x6C 1 (axisCount s u)]

/-- Source parameters of a definition as items (R182). -/
def sourceItems : SourceSpec → List Item × List Item
  | .line n => ([], [item 0x21 1 n])
  | .station p st c => ([item 0x12 1 p, item 0x13 1 st], [item 0x22 1 c])
  | .link p => ([item 0x12 1 p], [])
  | .lag | .loss | .catchall => ([], [])

/-- The number item of a scope (R182). -/
def scopeNumItems : Scope → List Item
  | .unit u => [item 0x24 1 u]
  | .shaft n => [item 0x24 1 n]
  | .source | .all => []

/-- The entry item of a definition: state, position from the head, coverage, first source, acked-by (R182). -/
def entryItem (s : State) (e : Entry) : Item :=
  { code := 0x73
    value := [BitVec.ofNat 8 (entryStateCode e.state), BitVec.ofNat 8 (s.trips.findIdx (fun f => f.defn == e.defn) + 1),
      BitVec.ofNat 8 (coverageByte e.coverage)] ++ sourceImage e.firstSource ++ [BitVec.ofNat 8 (orFF e.ackedBy)] }

/-- The image of a definition with its entry, and for D0 the unmatched-source set and the overflow mark (R58). That the present axes (72h) and
the source axes (74h) stand in ascending axis id is the model's choice (notes/assumptions/38.md). -/
def definitionImage (s : State) (d : Nat) (df : Definition) : List Item :=
  (sourceItems df.src).1 ++ [item 0x20 1 (sourceKindCode df.src.kind)] ++ (sourceItems df.src).2 ++
  [item 0x23 1 (scopeCode df.scope.kind)] ++ scopeNumItems df.scope ++
  [item 0x25 1 (categoryCode df.category), item 0x26 1 (bit df.maskable), item 0x70 1 (bit df.held), item 0x71 1 (bit df.cause)] ++
  (if df.src = .lag ∨ df.src = .loss then [listItem 0x72 (axisElements df.presentAxes)] else []) ++
  (match entryOf s d with
   | some e => entryItem s e :: (if df.scope = .source then [listItem 0x74 (axisElements e.sourceAxes)] else [])
   | none => []) ++
  (if d = 0 then [listItem 0x75 (s.unmatched.map sourceImage), item 0x76 1 (bit s.overflow)] else [])

/-- The image of a trigger with its place in its list, from the head as 1 (R100). -/
def triggerImage (s : State) (g : Nat) (t : Trigger) : List Item :=
  [item 0x10 1 t.shaft.val, item 0x12 1 t.port.val, item 0x13 1 t.station, item 0x28 4 t.angle.toNat, item 0x29 1 t.divider,
   item 0x2A 1 (bit t.enabled), item 0x78 1 t.phase, item 0x79 2 t.seq.toNat,
   item 0x7A 1 (s.triggerLists[t.shaft.val].findIdx (· == g) + 1)]

/-- The image of a view (R114). -/
def viewImage (v : View) : List Item :=
  [item 0x30 1 v.owner, item 0x31 1 v.trigger, item 0x32 1 v.firstTile, item 0x33 1 v.lastTile, item 0x34 1 (viewStateCode v.state),
   item 0x7C 1 v.thin] ++ optItems 0x7D 2 (v.lastThin.map (fun q => (q.toNat : Int)))

/-- Record kind and id of an awaited object (R182). -/
def awaitedBytes : Option Awaited → List Byte
  | none => [0, 0xFF]
  | some (.shaft sh) => [BitVec.ofNat 8 (recKindCode .shaft), BitVec.ofNat 8 sh.val]
  | some (.axis x) => [BitVec.ofNat 8 (recKindCode .axis), BitVec.ofNat 8 x]

/-- One element of the watch set (R182). -/
def watchElement (w : Watch) : List Byte :=
  [BitVec.ofNat 8 w.axis,
   BitVec.ofNat 8 ((if w.pending then 1 else 0) + (if w.lastTrim.isSome then 2 else 0) + (if w.lastLag.isSome then 4 else 0))] ++
  leSigned 4 (w.lastTrim.getD 0) ++ leSigned 4 (w.lastLag.getD 0)

/-- The image of a console with its segment's fields and its watch set; `left` is the time left on its hold timer (R118, R133,
R141). -/
def consoleImage (c : Console) (left : Nat) : List Item :=
  [item 0x12 1 c.port.val, item 0x13 1 c.station, item 0x38 1 (rightsCode c.rights), item 0x39 1 c.high, item 0x3A 1 c.low,
   item 0x80 1 (bit c.present), item 0x81 1 (noticeByte c.flags)] ++
  (c.flight.map (fun f => { code := 0x82, value := BitVec.ofNat 8 f.kind :: awaitedBytes f.awaited : Item })).toList ++
  [item 0x83 1 c.slots.length, item 0x84 1 (bit c.held)] ++
  (if c.holdTimer.isSome then [item 0x85 1 left] else []) ++ [listItem 0x86 (c.watches.map watchElement)]

/-- A tile of a console waits: PRESENT, its segment neither empty nor held (R127). -/
def tileReady (c : Console) : Bool := c.present && !c.slots.isEmpty && !c.held

/-- The tiles of a port's consoles that wait in its TILE class (R127, R160). -/
def tilesWaiting (s : State) (p : PortId) : Nat :=
  ((s.consoles.filter (fun q => q.2.port = p && tileReady q.2)).map (fun q => q.2.slots.length)).sum

/-- The image of a port with its queue counts (R160). -/
def portImage (s : State) (p : PortId) : List Item :=
  let q := s.port p
  [item 0x88 1 (portStateCode q.state), item 0x89 1 q.goodRun, item 0x8A 1 q.badRun, item 0x8B 1 q.grace] ++
  optItems 0x8C 1 (q.lastServed.map (fun k => (k : Int))) ++
  [{ code := 0x8D
     value := [q.setpointQ.length, q.strobeQ.length, q.replyQ.length, q.noticeQ.length, q.valueQ.length].map (BitVec.ofNat 8) },
   item 0x8E 2 (tilesWaiting s p), item 0x8F 1 (bit s.linkSeen[p.val])]

/-- The image of the hub record (R172). -/
def hubImage (h : Hub) : List Item :=
  [item 0x40 1 h.holdLimit, item 0x41 2 h.watchBand, item 0x42 1 h.grace, item 0x43 1 (conditionCode h.condition)]

/-! ### STATUS (R157) -/

/-- The report of a STATUS as the records stand (R157). That D0, which no request enrols (R58), counts among the definitions is the model's
choice (notes/assumptions/34.md). -/
def statusOf (s : State) : StatusReport :=
  { condition := s.hub.condition
    entries := s.trips.length
    overflow := s.overflow
    firstOut := s.trips.head?.map (fun e => { defn := e.defn, state := e.state, source := e.firstSource, ackedBy := e.ackedBy })
    axes := s.axes.length
    units := s.units.length
    definitions := s.defs.length
    triggers := s.triggers.length
    views := s.views.length
    consoles := s.consoles.length }

/-- The 16 bytes of the STATUS layout (R182). -/
def statusBytes (r : StatusReport) : List Byte :=
  [BitVec.ofNat 8 (conditionCode r.condition), BitVec.ofNat 8 r.entries, boolByte r.overflow] ++
  (match r.firstOut with
   | some f =>
     [BitVec.ofNat 8 f.defn, BitVec.ofNat 8 (entryStateCode f.state)] ++ sourceImage f.source ++ [BitVec.ofNat 8 (orFF f.ackedBy)]
   | none => [0xFF, 0, 0, 0, 0, 0, 0]) ++
  [r.axes, r.units, r.definitions, r.triggers, r.views, r.consoles].map (BitVec.ofNat 8)

/-! ### Replies and frames -/

/-- The bytes of an image: each item its code and value (R182). -/
def imageBytes (items : List Item) : List Byte := items.flatMap (fun i => BitVec.ofNat 8 i.code :: i.value)

/-- The further bytes of a DONE or NOTED reply (R182). -/
def resultBytes : Result → List Byte
  | .plain => []
  | .newId n => [BitVec.ofNat 8 n]
  | .image k n items => BitVec.ofNat 8 (recKindCode k) :: BitVec.ofNat 8 n :: imageBytes items
  | .status r => statusBytes r

/-- Class and further bytes of a reply (R182). -/
def replyTail : ReplyBody → List Byte
  | .done r => 0 :: resultBytes r
  | .noted r => 1 :: resultBytes r
  | .cut cause residual => 2 :: BitVec.ofNat 8 (cutCode cause) :: leSigned 4 residual
  | .refused why => [3, BitVec.ofNat 8 (reasonCode why)]

/-- The body of a reply (R182). -/
def replyBytes (r : Reply) : List Byte := BitVec.ofNat 8 r.kind :: BitVec.ofNat 8 r.tag :: replyTail r.body

/-- One entry of a SETPOINT payload (R179). -/
def setpointBytes (e : SetpointEntry) : List Byte :=
  BitVec.ofNat 8 e.channel :: BitVec.ofNat 8 ((if e.enable then 1 else 0) + (if e.trimming then 2 else 0)) :: leBytes 4 e.x.toNat

/-- The flags byte of a VALUE frame (R179). -/
def valueFlags (f : ValueFrame) : Nat :=
  (if f.e.isSome then 1 else 0) + (if f.lagCause then 2 else 0) + (if f.lossCause then 4 else 0) + (if f.haltCovered then 8 else 0)

/-- Kind, destination station and payload of an outbound frame (R179). -/
def outFrame : OutFrame → Nat × Nat × List Byte
  | .idle => (0x00, 0, [])
  | .setpoint f =>
    (0x01, f.station, BitVec.ofNat 8 f.shaft.val :: (leBytes 2 f.cycle.toNat ++ (BitVec.ofNat 8 f.entries.length :: f.entries.flatMap setpointBytes)))
  | .strobe f =>
    (0x04, f.station, BitVec.ofNat 8 f.trigger :: (leBytes 2 f.seq.toNat ++ leBytes 2 f.rep.toNat ++ [BitVec.ofNat 8 f.delay] ++ leBytes 2 f.cycle.toNat))
  | .tile st t =>
    (0x05, st, BitVec.ofNat 8 t.trigger :: (leBytes 2 t.seq.toNat ++ (BitVec.ofNat 8 t.index :: boolByte t.last :: t.payload)))
  | .reply st r => (0x09, st, replyBytes r)
  | .notice st n => (0x0A, st, [BitVec.ofNat 8 (noticeByte n)])
  | .value st f =>
    (0x0B, st, BitVec.ofNat 8 f.axis :: (leBytes 2 f.cycle.toNat ++ [BitVec.ofNat 8 (if f.engaged then 1 else 0)] ++ leSigned 4 f.t ++
      leSigned 4 f.c ++ leSigned 4 (f.e.getD 0) ++ [BitVec.ofNat 8 (valueFlags f), BitVec.ofNat 8 (demandCode f.demand)]))

/-- The bytes of an outbound frame on the lane, its CRC at the end (R179). The station of an IDLE frame is the model's 0
(notes/assumptions/15.md). -/
def outBytes (f : OutFrame) : List Byte := frameBytes (outFrame f).1 (outFrame f).2.1 (outFrame f).2.2

end Sys2Proof.Machine
end

