-- ==== Sys2Proof/Machine/HubCmds.lean ====
section
/-! DEFINITION. READ, STATUS, RESTART and AMEND HUB (chapters 9 and 11). -/
namespace Sys2Proof.Machine
open Sys2Proof

/-! ### READ -/

/-- The records a READ of a kind and id reads (R173). -/
def readRecs (s : State) (kind : RecKind) (id : Nat) : List Rec :=
  match kind with
  | .axis => [.axis id]
  | .unit => .unit id :: axisRecs s
  | .shaft => ((toShaft id).map (fun i => [Rec.shaft i, Rec.stack i])).getD []
  | .definition => .definition id :: (if id = 0 then [.tripList, .unmatched] else [.tripList])
  | .trigger => .trigger id :: allShafts.map .triggerList
  | .view => [.view id]
  | .console => [.address id, .console id, .segment id, .watchSet id]
  | .port => ((toPort id).map (fun p =>
      Rec.port p :: addressRecs s ++ (consolesOn s p).flatMap (fun k => [Rec.console k, Rec.segment k]))).getD []
  | .hub => [.hub]

/-- DONE with the image of a record (R150, R182). -/
def answerImage (kind : RecKind) (id : Nat) (items : List Item) (s : State) : Took := accept false (.image kind id items) s

/-- The time left on a running hold timer: a free value no greater than its limit (notes/assumptions/3.md). -/
def timeLeft (s : State) (c : Console) : Nat :=
  match c.holdTimer with
  | some limit => Config.freeHoldTime s.freeCount % (limit + 1)
  | none => 0

/-- The image of a console; a running hold timer draws a free value. -/
def readConsole (id : Nat) (c : Console) (s : State) : Took :=
  answerImage .console id (consoleImage c (timeLeft s c))
    (if c.holdTimer.isSome then { s with freeCount := s.freeCount + 1 } else s)

/-- What the owning block answers a READ (R1, R33, R58, R87, R100, R114, R118, R133, R141, R160, R172): the image as the record
stands, ABSENT for an id with no record, RANGE for a shaft, unit or port number outside its range. -/
def takeRead (kind : RecKind) (id : Nat) (s : State) : Took :=
  match kind with
  | .axis => match s.axis id with
    | some a => answerImage .axis id (axisImage a) s
    | none => refuse .absent s
  | .unit => if 15 < id then refuse .range s else match s.unit id with
    | some u => answerImage .unit id (unitImage s id u) s
    | none => refuse .absent s
  | .shaft => match toShaft id with
    | some i => answerImage .shaft id (shaftImage (s.shaft i) s.shaftStacks[i.val]) s
    | none => refuse .range s
  | .definition => match s.defn id with
    | some d => answerImage .definition id (definitionImage s id d) s
    | none => refuse .absent s
  | .trigger => match s.trigger id with
    | some t => answerImage .trigger id (triggerImage s id t) s
    | none => refuse .absent s
  | .view => match s.view id with
    | some v => answerImage .view id (viewImage v) s
    | none => refuse .absent s
  | .console => match s.console id with
    | some c => readConsole id c s
    | none => refuse .absent s
  | .port => match toPort id with
    | some p => answerImage .port id (portImage s p) s
    | none => refuse .range s
  | .hub => answerImage .hub id (hubImage s.hub) s

/-- READ as a state change; the object id of HUB is 0 (R181). -/
def runRead (o : Origin) (tag : Nat) (kind : RecKind) (id : Nat) (s : State) : State :=
  request o 0x01 tag (kind != .hub || id == 0) .viewer (fun _ s => needs (readRecs s kind id) (takeRead kind id) s) s

/-- READ (R147, R182). -/
def execRead (o : Origin) (tag : Nat) (kind : RecKind) (id : Nat) (s : State) : Host.Outcome State Fault Refusal :=
  .next (runRead o tag kind id s)

/-! ### STATUS -/

/-- STATUS as a state change (R157). -/
def runStatus (o : Origin) (tag : Nat) (s : State) : State :=
  request o 0x38 tag true .viewer
    (fun _ s => needs [.tripList, .unmatched] (fun s => accept false (.status (statusOf s)) s) s) s

/-- STATUS (R157). -/
def execStatus (o : Origin) (tag : Nat) (s : State) : Host.Outcome State Fault Refusal := .next (runStatus o tag s)

/-! ### RESTART (R158) -/

/-- A shaft's part of RESTART (R17): an inch ends CUT, STANDBY, Vt 0, trip rate absent. -/
def restartShaft (s : State) (sh : ShaftId) : State :=
  let t := cutInch .restart sh s
  enterState sh .standby (t.setShaft sh { t.shaft sh with vt := 0, tripRate := none })

/-- The axes' part of RESTART: awaited trims end CUT (R57), in ascending axis id, which is the model's choice
(notes/assumptions/22.md). -/
def restartAxes (s : State) : State := (tblIds s.axes).foldl (fun t x => cutAwait .restart x t) s

/-- The grant table's part of RESTART (R99). -/
def restartGrants (s : State) : State :=
  let t := mapShaftStacks (fun _ => []) { s with units := tblMap (fun _ u => { u with stack := [] }) s.units }
  if (holders s).any (·.isSome) then setFlag .grants t else t

/-- The tile router's part of RESTART (R131). -/
def restartTiles (s : State) : State :=
  { s with
    consoles := tblMap (fun _ c => { c with slots := [] }) s.consoles
    views := tblMap (fun _ v => { v with thin := 0, lastThin := none }) s.views }

/-- The watch unit's part of RESTART (R140). -/
def restartWatches (s : State) : State :=
  mapPorts (fun q => { q with valueQ := [] })
    { s with consoles := tblMap (fun _ c =>
        { c with watches := c.watches.map (fun w => { w with pending := false, lastTrim := none, lastLag := none }) }) s.consoles }

/-- The parts of RESTART before the trip unit's, in the order of R158. -/
def restartParts (s : State) : State := restartWatches (restartTiles (restartGrants (restartAxes (allShafts.foldl restartShaft s))))

/-- Every record RESTART uses (R174). -/
def restartRecs (s : State) : List Rec :=
  allShafts.map .shaft ++ axisRecs s ++ (tblIds s.units).map .unit ++ allShafts.map .stack ++ viewRecs s ++
  (tblIds s.consoles).map .segment ++ partyRecs s ++ portRecs ++ tripRecs s

/-- The hub's part of RESTART (R158): MOVING where any shaft has V not 0. -/
def takeRestart (s : State) : Took :=
  if allShafts.any (fun sh => (s.shaft sh).v != 0) then refuse .moving s
  else working (tripEvent restartTrips) (accept false .plain) (restartParts s)

/-- RESTART as a state change (R158). -/
def runRestart (o : Origin) (tag : Nat) (s : State) : State :=
  request o 0x3F tag true .line (fun _ s => needs (restartRecs s) takeRestart s) s

/-- RESTART (R158). -/
def execRestart (o : Origin) (tag : Nat) (s : State) : Host.Outcome State Fault Refusal := .next (runRestart o tag s)

/-! ### AMEND HUB -/

/-- The hub record's part of AMEND HUB (R126, R136, R167, R172). -/
def takeAmendHub (f : HubFields) (s : State) : Took :=
  let h : Hub := { s.hub with
    holdLimit := named f.holdLimit s.hub.holdLimit, watchBand := named f.watchBand s.hub.watchBand, grace := named f.grace s.hub.grace }
  if f.failed.isSome then refuse .range s
  else if h.holdLimit < 1 ∨ 255 < h.holdLimit ∨ h.watchBand < 1 ∨ 65535 < h.watchBand ∨ 15 < h.grace then refuse .range s
  else accept false .plain { s with hub := h }

/-- AMEND HUB names at least one field (R172). -/
def namesHubField (f : HubFields) : Bool := f.holdLimit.isSome || f.watchBand.isSome || f.grace.isSome || f.failed.isSome

/-- AMEND HUB as a state change (R172). -/
def runAmendHub (o : Origin) (tag : Nat) (f : HubFields) (s : State) : State :=
  request o 0x03 tag (namesHubField f) .line (fun _ => takeAmendHub f) s

/-- AMEND_HUB (R172). -/
def execAmendHub (o : Origin) (tag : Nat) (f : HubFields) (s : State) : Host.Outcome State Fault Refusal := .next (runAmendHub o tag f s)

end Sys2Proof.Machine
end

