-- ==== Sys2Proof/Machine/Ports.lean ====
section
/-! DEFINITION. Commands of the line-link ports (chapter 10): light, bad frames, IDLE, frames that are discarded, and the
choice of the next frame to send. -/
namespace Sys2Proof.Machine
open Sys2Proof

/-! ### Reception -/

/-- LIGHT (R162). -/
def execLight (p : PortId) (s : State) : Host.Outcome State Fault Refusal :=
  .next (event (takeLight p) { s with lightPins := s.lightPins.set p.val true })

/-- LOSS_OF_LIGHT (R162). -/
def execLossOfLight (p : PortId) (s : State) : Host.Outcome State Fault Refusal :=
  .next (event (takeDark p) { s with lightPins := s.lightPins.set p.val false })

/-- BAD_FRAME (R161, R162). -/
def execBadFrame (p : PortId) (s : State) : Host.Outcome State Fault Refusal := .next (event (receiveBad p) s)

/-- IDLE (R165): alignment and the presence report, nothing dispatched. -/
def execIdle (p : PortId) (st : Nat) (s : State) : Host.Outcome State Fault Refusal := .next (event (receiveGood p st .on) s)

/-! ### Egress (R166, R167) -/

/-- A tile waits in the port's TILE class (R127). -/
def tileWaits (s : State) (p : PortId) : Bool := s.consoles.any (fun q => q.2.port = p && tileReady q.2)

/-- A tile is due: G is not 0, the grace count has reached it and a tile waits (R167). -/
def tileDue (s : State) (p : PortId) : Bool := s.hub.grace != 0 && decide (s.hub.grace ≤ (s.port p).grace) && tileWaits s p

/-- The tile grace applies at a choice (R167): a tile is due and no SETPOINT frame waits. -/
def graceApplies (s : State) (p : PortId) : Bool := tileDue s p && (s.port p).setpointQ.isEmpty

/-- The sending of a frame that is no tile begins; `waits` says whether a tile waits (R167). -/
def beginFrame (p : PortId) (waits : Bool) (f : OutFrame) (s : State) : State :=
  s.modPort p (fun q => { q with sending := some f, grace := if waits then min 15 (q.grace + 1) else 0 })

/-- The turn among the consoles of a port: those after the last-served one, then those up to it (R127). -/
def tileTurn (s : State) (p : PortId) : List Nat :=
  let ks := consolesOn s p
  match (s.port p).lastServed with
  | none => ks
  | some l => ks.filter (fun k => l < k) ++ ks.filter (fun k => k ≤ l)

/-- The console whose head tile is sent next (R127). -/
def nextTile (s : State) (p : PortId) : Option Nat :=
  (tileTurn s p).find? (fun k => match s.console k with
    | some c => tileReady c
    | none => false)

/-- The current sequence of a trigger: that of its latest firing (R122). -/
def currentSeq (s : State) (g : Nat) : Count16 := ((s.trigger g).map (·.seq)).getD 0 - 1

/-- The low-mark test for one view (R122). -/
def lowerThin (s : State) (v : View) : View :=
  if v.thin = 0 ∨ v.lastThin = some (currentSeq s v.trigger) then v
  else { v with thin := v.thin - 1, lastThin := some (currentSeq s v.trigger) }

/-- A departure that leaves the occupancy at or below the low mark tests every view of the console (R122). -/
def departed (k : Nat) (c : Console) (s : State) : State :=
  if c.slots.length ≤ c.low then { s with views := tblMap (fun _ v => if v.owner = k then lowerThin s v else v) s.views } else s

/-- What a departure reads: every view, for its owner, and the triggers of the console's views that have a thin level (R122, R173). -/
def departRecs (s : State) (k : Nat) : List Rec :=
  viewRecs s ++ (s.views.filter (fun p => p.2.owner == k && p.2.thin != 0)).map (fun p => .trigger p.2.trigger)

/-- The TILE class is chosen: the head tile of the console whose turn it is (R127). -/
def sendTile (p : PortId) (s : State) : Progress :=
  match nextTile s p with
  | none => .on (beginFrame p false .idle s)
  | some k =>
    match s.console k with
    | none => .on (beginFrame p false .idle s)
    | some c =>
      match c.slots with
      | [] => .on (beginFrame p false .idle s)
      | t :: rest =>
        reading (if rest.length ≤ c.low then departRecs s k else []) (fun s =>
          let c' := { c with slots := rest }
          let u := (s.setConsole k c').modPort p
            (fun q => { q with sending := some (.tile c.station t), grace := 0, lastServed := some k })
          .on (departed k c' u)) s

/-- A SETPOINT frame leaves its queue (R166). Where it goes before a tile that is due, the tile waits on with the grace count
unchanged (R167; the table of R167 would raise it: notes/assumptions/31.md). -/
def sendSetpoint (p : PortId) (waits : Bool) (f : SetpointFrame) (rest : List SetpointFrame) (s : State) : Progress :=
  .on (if tileDue s p then s.modPort p (fun q => { q with setpointQ := rest, sending := some (.setpoint f) })
    else beginFrame p waits (.setpoint f) (s.modPort p (fun q => { q with setpointQ := rest })))

/-- A STROBE frame leaves its queue (R109, R166). -/
def sendStrobe (p : PortId) (waits : Bool) (f : StrobeFrame) (rest : List StrobeFrame) (s : State) : Progress :=
  .on (beginFrame p waits (.strobe f) (s.modPort p (fun q => { q with strobeQ := rest })))

/-- A console's reply leaves its slot; the reply of its in-flight request ends the flight (R148, R149). -/
def sendConsoleReply (p : PortId) (waits : Bool) (k : Nat) (c : Console) (r : Reply) (s : State) : State :=
  beginFrame p waits (.reply c.station r)
    (s.setConsole k { c with slot := none, flight := if r.isBusy then c.flight else none })

/-- The oldest reply of the REPLY class goes (R149, R166). -/
def sendReply (p : PortId) (waits : Bool) (w : ReplyPlace) (rest : List ReplyPlace) (s : State) : Progress :=
  let t := s.modPort p (fun q => { q with replyQ := rest })
  match w with
  | .console k =>
    match t.console k with
    | some c =>
      match c.slot with
      | some r => .on (sendConsoleReply p waits k c r t)
      | none => .on (beginFrame p waits .idle t)
    | none => .on (beginFrame p waits .idle t)
  | .stray =>
    match (t.port p).stray with
    | some (st, r) => .on (beginFrame p waits (.reply st r) (t.modPort p (fun q => { q with stray := none })))
    | none => .on (beginFrame p waits .idle t)

/-- The oldest NOTICE entry: its frame is built with the flags as they stand, and they are cleared (R154). -/
def sendNotice (p : PortId) (waits : Bool) (k : Nat) (rest : List Nat) (s : State) : Progress :=
  let t := s.modPort p (fun q => { q with noticeQ := rest })
  match t.console k with
  | some c => .on (beginFrame p waits (.notice c.station c.flags) (t.setConsole k { c with flags := .clear }))
  | none => .on (beginFrame p waits .idle t)

/-- The VALUE frame of an axis as the records stand (R138). -/
def valueFrame (s : State) (x : Nat) (a : Axis) : ValueFrame :=
  { axis := x, cycle := (s.shaft a.shaft).cycle, engaged := a.engaged, t := a.t, c := a.c, e := a.e, lagCause := a.lagCause,
    lossCause := a.lossCause, demand := (s.shaft a.shaft).demand, haltCovered := haltCovers s x a }

/-- The records a VALUE frame is built from (R138). -/
def valueRecs (s : State) (k x : Nat) : List Rec :=
  [.watchSet k, .axis x] ++ ((s.axis x).map (fun a => Rec.shaft a.shaft)).toList ++ tripRecs s

/-- The head of the pending queue: its frame is built, the last-sent values recorded and the pending flag cleared (R138). -/
def sendValue (p : PortId) (waits : Bool) (k x : Nat) (rest : List (Nat × Nat)) (s : State) : Progress :=
  reading (valueRecs s k x) (fun s =>
    let t := s.modPort p (fun q => { q with valueQ := rest })
    match t.console k, t.axis x with
    | some c, some a =>
      .on (beginFrame p waits (.value c.station (valueFrame t x a))
        (t.setConsole k { c with
          watches := updWatch x (fun w => { w with pending := false, lastTrim := some a.c, lastLag := a.e }) c.watches }))
    | _, _ => .on (beginFrame p waits .idle t)) s

/-- The first class of the order that has a frame waiting, or IDLE (R166). -/
def sendFirst (p : PortId) (waits : Bool) (s : State) : Progress :=
  let q := s.port p
  match q.setpointQ, q.strobeQ, q.replyQ, q.noticeQ, q.valueQ with
  | f :: rest, _, _, _, _ => sendSetpoint p waits f rest s
  | [], f :: rest, _, _, _ => sendStrobe p waits f rest s
  | [], [], w :: rest, _, _ => sendReply p waits w rest s
  | [], [], [], k :: rest, _ => sendNotice p waits k rest s
  | [], [], [], [], e :: rest => sendValue p waits e.1 e.2 rest s
  | [], [], [], [], [] => if waits then sendTile p s else .on (beginFrame p false .idle s)

/-- The records of a port's consoles and segments, read at every choice (R173). -/
def choiceRecs (s : State) (p : PortId) : List Rec :=
  .port p :: .hub :: (consoleRecs s ++ (consolesOn s p).map .segment)

/-- The egress arbiter chooses the next frame and its sending begins (R166). -/
def chooseFrame (p : PortId) (s : State) : Progress :=
  reading (choiceRecs s p) (fun s =>
    if (s.port p).state = .up then
      if graceApplies s p then sendTile p s else sendFirst p (tileWaits s p) s
    else .on (beginFrame p false .idle s)) s

/-- Where the choice finds a bad word the hub enters FAILED, and the arbiter chooses again (R174). -/
def freeTransmitter (p : PortId) (s : State) : State :=
  match chooseFrame p s with
  | .on t => t
  | .stopped t => (chooseFrame p (enterFailed t)).state

/-- TRANSMITTER_FREE (R166). -/
def execTransmitterFree (p : PortId) (s : State) : Host.Outcome State Fault Refusal :=
  .next (if s.resetPin then s else freeTransmitter p s)

end Sys2Proof.Machine
end

