-- ==== Sys2Proof/Machine/Line.lean ====
section
/-! DEFINITION. The line-computer port (R155, R156, R183), the running of a request or frame that bytes spell, and pin reset
(R177). -/
namespace Sys2Proof.Machine
open Sys2Proof

/-! ### Requests and frames from their bytes -/

/-- A request command as a state change; the commands that are no requests change nothing here. -/
def runRequest (i : Instr) (s : State) : State :=
  match i with
  | .run o tag n v => runRun o tag n v s
  | .speed o tag n v => runSpeed o tag n v s
  | .stop o tag n => runStop o tag n s
  | .inch o tag n v k => runInch o tag n v k s
  | .amendShaft o tag n f => runAmendShaft o tag n f s
  | .enrolAxis o tag f => runEnrolAxis o tag f s
  | .amendAxis o tag x f => runAmendAxis o tag x f s
  | .amendAxisAwait o tag x f => runAmendAxisAwait o tag x f s
  | .engage o tag x => runEngage o tag x s
  | .release o tag x => runRelease o tag x s
  | .retireAxis o tag x => runRetireAxis o tag x s
  | .enrolDefinition o tag src scope cat m => runEnrolDefinition o tag src scope cat m s
  | .amendDefinition o tag d f => runAmendDefinition o tag d f s
  | .retireDefinition o tag d => runRetireDefinition o tag d s
  | .acknowledge o tag d => runAcknowledge o tag d s
  | .acknowledgeAll o tag => runAcknowledgeAll o tag s
  | .enrolUnit o tag u sh => runEnrolUnit o tag u sh s
  | .amendUnit o tag u sh => runAmendUnit o tag u sh s
  | .retireUnit o tag u => runRetireUnit o tag u s
  | .grant o tag cp => runGrant o tag cp s
  | .yield o tag cp => runYield o tag cp s
  | .enrolTrigger o tag f => runEnrolTrigger o tag f s
  | .amendTrigger o tag g f => runAmendTrigger o tag g f s
  | .retireTrigger o tag g => runRetireTrigger o tag g s
  | .enrolView o tag f => runEnrolView o tag f s
  | .amendView o tag v f => runAmendView o tag v f s
  | .retireView o tag v => runRetireView o tag v s
  | .watch o tag x => runWatch o tag x s
  | .unwatch o tag x => runUnwatch o tag x s
  | .enrolConsole o tag f => runEnrolConsole o tag f s
  | .amendConsole o tag k f => runAmendConsole o tag k f s
  | .retireConsole o tag k => runRetireConsole o tag k s
  | .read o tag kind id => runRead o tag kind id s
  | .status o tag => runStatus o tag s
  | .restart o tag => runRestart o tag s
  | .amendHub o tag f => runAmendHub o tag f s
  | .cycleEvent _ | .feedback _ _ _ | .raiseTrip _ _ _ | .dropTrip _ _ _ | .tripLineChange _ _ | .inhibitAsserted
  | .inhibitReleased | .tile _ _ _ _ _ _ _ | .hold _ _ | .go _ _ | .holdTimerExpiry _ | .readStatus _ | .readReply _
  | .light _ | .lossOfLight _ | .badFrame _ | .idle _ _ | .unknownKindFrame _ _ _ _ | .transmitterFree _
  | .resetAsserted | .resetReleased | .writeRequest _ => s

/-- A request body as it is handed to the request unit: the request it spells, or the refusal of a misfit, whose kind and tag
are its first two bytes (R181). -/
def handBody (o : Origin) (body : List Byte) (s : State) : State :=
  match decodeRequest o body with
  | some i => runRequest i s
  | none => misfit o ((body.head?.map (·.toNat)).getD 0) ((body.tail.head?.map (·.toNat)).getD 0) s

/-- A frame command of a station as its own meaning; the others change nothing here. -/
def runStationFrame (i : Instr) (s : State) : Host.Outcome State Fault Refusal :=
  match i with
  | .idle p st => execIdle p st s
  | .feedback p st es => execFeedback p st es s
  | .raiseTrip p st c => execRaiseTrip p st c s
  | .dropTrip p st c => execDropTrip p st c s
  | .tile p st g seq ix last image => execTile p st g seq ix last image s
  | .hold p st => execHold p st s
  | .go p st => execGo p st s
  | _ => .next (runRequest i s)

/-- UNKNOWN_KIND_FRAME (R165, R179): a good frame by its kind, station and payload. One of an unknown kind, of a kind the hub
alone sends, of a station outside 0 to 15 or with a payload that does not fit is discarded after the presence report; a
REQUEST frame of 2 bytes or more goes to the request unit, which answers a misfit RANGE; a frame that another row stands for
is that row's command. -/
def execUnknownKindFrame (p : PortId) (st kind : Nat) (payload : List Byte) (s : State) : Host.Outcome State Fault Refusal :=
  match fittingFrame p st kind payload with
  | some i => runStationFrame i s
  | none =>
    if kind = 0x08 ∧ st < 16 ∧ 2 ≤ payload.length then .next (handBody (.console p st) payload s)
    else .next (event (receiveGood p st .on) s)

/-! ### SPI transactions -/

/-- The port status byte (R155, R183). -/
def statusByte (s : State) : Byte :=
  BitVec.ofNat 8 ((if s.line.slot.isSome then 1 else 0) + (if s.line.writeTaken then 2 else 0) + 4 * noticeByte s.line.flags +
    (if s.line.ports then 64 else 0))

/-- The status is returned and the flags shown are cleared (R155); the bytes clocked out after it follow. -/
def returnStatus (after : List Byte) (s : State) : State :=
  { s with spiOut := statusByte s :: after, line := { s.line with flags := .clear, ports := false } }

/-- READ_STATUS (R155, R183): 00h is sent for every further byte. -/
def execReadStatus (clocked : Nat) (s : State) : Host.Outcome State Fault Refusal :=
  .next (if s.resetPin then s else returnStatus (List.replicate clocked 0) s)

/-- Length and body as READ REPLY sends them; an empty slot gives length 0 (R183). -/
def replyStream (s : State) : List Byte :=
  match s.line.slot with
  | some r => leBytes 2 (replyBytes r).length ++ replyBytes r
  | none => [0, 0]

/-- The bytes clocked out by READ REPLY: the stream, and after its end free bytes (notes/assumptions/4.md). -/
def clockedOut (s : State) (clocked : Nat) : List Byte :=
  (replyStream s).take clocked ++
    (List.range (clocked - (replyStream s).length)).map (fun i => Config.freeByte (s.freeCount + i))

/-- The reply is read: the slot empties, and the in-flight request ends unless the reply was a BUSY refusal (R148, R156). -/
def emptySlot (s : State) : State :=
  match s.line.slot with
  | some r => { s with line := { s.line with slot := none, flight := if r.isBusy then s.line.flight else none } }
  | none => s

/-- READ_REPLY (R155, R183): a select that ends within the length leaves the slot. -/
def execReadReply (clocked : Nat) (s : State) : Host.Outcome State Fault Refusal :=
  .next (if s.resetPin then s
    else
      let t := returnStatus (clockedOut s clocked) s
      let u := { t with freeCount := t.freeCount + (clocked - (replyStream s).length) }
      if 2 ≤ clocked then emptySlot u else u)

/-- WRITE_REQUEST (R155, R183): taken where the slot was empty at the start and the body is whole; the hub sends 00h after the
status. -/
def execWriteRequest (bytes : List Byte) (s : State) : Host.Outcome State Fault Refusal :=
  .next (if s.resetPin then s
    else
      let t := returnStatus (List.replicate bytes.length 0) s
      match wholeBody bytes, s.line.slot with
      | some body, none => handBody .line body { t with line := { t.line with writeTaken := true } }
      | _, _ => { t with line := { t.line with writeTaken := false } })

/-! ### Pin reset (R177) -/

/-- RESET_ASSERTED (R177): every record takes its value after pin reset, the pins stay as they stand, and the hub takes no event
until RESET is released. -/
def execResetAsserted (s : State) : Host.Outcome State Fault Refusal :=
  .next { State.reset with
    resetPin := true, tripPins := s.tripPins, inhibitPin := s.inhibitPin, lightPins := s.lightPins, freeCount := s.freeCount,
    line := { State.reset.line with flags := .clear }, pending := s.pending }

/-- A port whose receiver reports light takes it as RESET is released, and its transmitter begins IDLE frames (R171). A dark port's
transmitter begins IDLE at the next TRANSMITTER_FREE (the model's choice, notes/assumptions/32.md). -/
def wakePort (p : PortId) (s : State) : Progress :=
  if s.lightPins[p.val] then (takeLight p s).andThen fun t => .on (t.modPort p (fun q => { q with sending := some .idle }))
  else .on s

/-- A trip line at its trip level is taken as RESET is released (R62). -/
def wakeLine (n : Fin 8) (s : State) : Progress := if s.tripPins[n.val] then takeLine n.val true s else .on s

/-- What the blocks take when RESET is released: lines in order, then ports (R62, R171, R177). -/
def wake (s : State) : Progress :=
  (forEach [(0 : Fin 8), 1, 2, 3, 4, 5, 6, 7] wakeLine s).andThen (forEach allPorts wakePort)

/-- RESET_RELEASED (R177): HUB is set, the timers start their first interval (R2), lines and light are taken. -/
def execResetReleased (s : State) : Host.Outcome State Fault Refusal :=
  .next (if s.resetPin then
      settle wake { s with
        resetPin := false, timers := #v[(s.shaft 0).period, (s.shaft 1).period, (s.shaft 2).period, (s.shaft 3).period]
        line := { s.line with flags := { s.line.flags with hub := true } } }
    else s)

end Sys2Proof.Machine
end

