-- ==== Sys2Proof/Machine/Dispatch.lean ====
section
/-! DEFINITION. One arm per command: a direct call of its meaning. -/
namespace Sys2Proof.Machine
open Sys2Proof

def exec (i : Instr) (s : State) : Host.Outcome State Fault Refusal :=
  match i with
  | .cycleEvent sh => Sys2Proof.Machine.execCycleEvent sh s
  | .run o tag shaft speed => Sys2Proof.Machine.execRun o tag shaft speed s
  | .speed o tag shaft speed => Sys2Proof.Machine.execSpeed o tag shaft speed s
  | .stop o tag shaft => Sys2Proof.Machine.execStop o tag shaft s
  | .inch o tag shaft speed repeats => Sys2Proof.Machine.execInch o tag shaft speed repeats s
  | .amendShaft o tag shaft f => Sys2Proof.Machine.execAmendShaft o tag shaft f s
  | .enrolAxis o tag f => Sys2Proof.Machine.execEnrolAxis o tag f s
  | .amendAxis o tag axis f => Sys2Proof.Machine.execAmendAxis o tag axis f s
  | .amendAxisAwait o tag axis f => Sys2Proof.Machine.execAmendAxisAwait o tag axis f s
  | .engage o tag axis => Sys2Proof.Machine.execEngage o tag axis s
  | .release o tag axis => Sys2Proof.Machine.execRelease o tag axis s
  | .retireAxis o tag axis => Sys2Proof.Machine.execRetireAxis o tag axis s
  | .feedback port station entries => Sys2Proof.Machine.execFeedback port station entries s
  | .enrolDefinition o tag src scope cat maskable => Sys2Proof.Machine.execEnrolDefinition o tag src scope cat maskable s
  | .amendDefinition o tag index f => Sys2Proof.Machine.execAmendDefinition o tag index f s
  | .retireDefinition o tag index => Sys2Proof.Machine.execRetireDefinition o tag index s
  | .raiseTrip port station code => Sys2Proof.Machine.execRaiseTrip port station code s
  | .dropTrip port station code => Sys2Proof.Machine.execDropTrip port station code s
  | .tripLineChange line trip => Sys2Proof.Machine.execTripLineChange line trip s
  | .inhibitAsserted => Sys2Proof.Machine.execInhibitAsserted s
  | .inhibitReleased => Sys2Proof.Machine.execInhibitReleased s
  | .acknowledge o tag index => Sys2Proof.Machine.execAcknowledge o tag index s
  | .acknowledgeAll o tag => Sys2Proof.Machine.execAcknowledgeAll o tag s
  | .enrolUnit o tag unit shaft => Sys2Proof.Machine.execEnrolUnit o tag unit shaft s
  | .amendUnit o tag unit shaft => Sys2Proof.Machine.execAmendUnit o tag unit shaft s
  | .retireUnit o tag unit => Sys2Proof.Machine.execRetireUnit o tag unit s
  | .grant o tag cp => Sys2Proof.Machine.execGrant o tag cp s
  | .yield o tag cp => Sys2Proof.Machine.execYield o tag cp s
  | .enrolTrigger o tag f => Sys2Proof.Machine.execEnrolTrigger o tag f s
  | .amendTrigger o tag trigger f => Sys2Proof.Machine.execAmendTrigger o tag trigger f s
  | .retireTrigger o tag trigger => Sys2Proof.Machine.execRetireTrigger o tag trigger s
  | .enrolView o tag f => Sys2Proof.Machine.execEnrolView o tag f s
  | .amendView o tag view f => Sys2Proof.Machine.execAmendView o tag view f s
  | .retireView o tag view => Sys2Proof.Machine.execRetireView o tag view s
  | .tile port station trigger seq index last payload => Sys2Proof.Machine.execTile port station trigger seq index last payload s
  | .hold port station => Sys2Proof.Machine.execHold port station s
  | .go port station => Sys2Proof.Machine.execGo port station s
  | .holdTimerExpiry console => Sys2Proof.Machine.execHoldTimerExpiry console s
  | .watch o tag axis => Sys2Proof.Machine.execWatch o tag axis s
  | .unwatch o tag axis => Sys2Proof.Machine.execUnwatch o tag axis s
  | .enrolConsole o tag f => Sys2Proof.Machine.execEnrolConsole o tag f s
  | .amendConsole o tag console f => Sys2Proof.Machine.execAmendConsole o tag console f s
  | .retireConsole o tag console => Sys2Proof.Machine.execRetireConsole o tag console s
  | .read o tag kind id => Sys2Proof.Machine.execRead o tag kind id s
  | .status o tag => Sys2Proof.Machine.execStatus o tag s
  | .restart o tag => Sys2Proof.Machine.execRestart o tag s
  | .amendHub o tag f => Sys2Proof.Machine.execAmendHub o tag f s
  | .readStatus clocked => Sys2Proof.Machine.execReadStatus clocked s
  | .readReply clocked => Sys2Proof.Machine.execReadReply clocked s
  | .light port => Sys2Proof.Machine.execLight port s
  | .lossOfLight port => Sys2Proof.Machine.execLossOfLight port s
  | .badFrame port => Sys2Proof.Machine.execBadFrame port s
  | .idle port station => Sys2Proof.Machine.execIdle port station s
  | .unknownKindFrame port station kind payload => Sys2Proof.Machine.execUnknownKindFrame port station kind payload s
  | .transmitterFree port => Sys2Proof.Machine.execTransmitterFree port s
  | .resetAsserted => Sys2Proof.Machine.execResetAsserted s
  | .resetReleased => Sys2Proof.Machine.execResetReleased s
  | .writeRequest bytes => Sys2Proof.Machine.execWriteRequest bytes s

end Sys2Proof.Machine
end

