-- ==== Sys2Proof/WellFormed.lean ====
section
/-! DEFINITION. Well-formed commands: every operand has a value that its frame, request body or pin event can carry (R179 to
R183). A value that fits its size and lies outside the field's range is well-formed: the owning block judges it. -/
namespace Sys2Proof

/-- Fits one byte. -/
def fits8 (n : Nat) : Bool := decide (n < 256)

/-- Fits two bytes. -/
def fits16 (n : Nat) : Bool := decide (n < 65536)

/-- Fits four bytes. -/
def fits32 (n : Nat) : Bool := decide (n < 4294967296)

/-- Fits four bytes in two's complement. -/
def fitsSigned (v : Int) : Bool := decide (-2147483648 ≤ v ∧ v < 2147483648)

/-- A field that is left out, or whose value fits. -/
def fitsOpt {α : Type} (fit : α → Bool) (v : Option α) : Bool := v.all fit

/-- The sender of a request: stations of a frame that is dispatched are 0 to 15 (R165). -/
def Origin.wf : Origin → Bool
  | .line => true
  | .console _ st => decide (st < 16)

/-- Sender and tag of a request. -/
def wfRequest (o : Origin) (tag : Nat) : Bool := o.wf && fits8 tag

/-- The number of a control point fits the object id. -/
def ControlPoint.wf : ControlPoint → Bool
  | .unit n => fits8 n
  | .shaft n => fits8 n

/-- The parameters of a source fit their items. -/
def SourceSpec.wf : SourceSpec → Bool
  | .line n => fits8 n
  | .station p st c => fits8 p && fits8 st && fits8 c
  | .link p => fits8 p
  | .lag | .loss | .catchall => true

/-- The number of a scope fits its item. -/
def Scope.wf : Scope → Bool
  | .unit u => fits8 u
  | .shaft n => fits8 n
  | .source | .all => true

/-- AMEND SHAFT's items fit. -/
def ShaftFields.wf (f : ShaftFields) : Bool :=
  fitsOpt fits16 f.period && fitsOpt fits32 f.vMax && fitsOpt fits16 f.acc && fitsOpt fits16 f.dn && fitsOpt fits16 f.dq &&
  fitsOpt fits32 f.inchLimit

/-- ENROL AXIS's items fit. -/
def AxisEnrol.wf (f : AxisEnrol) : Bool :=
  fits8 f.shaft && fits8 f.unit && fits8 f.port && fits8 f.station && fits8 f.channel && fitsSigned f.gearN && fits8 f.shift &&
  fits32 f.slew && fits32 f.lagLimit && fits16 f.window && fits8 f.lagDef && fits8 f.lossDef

/-- AMEND AXIS's items fit. -/
def AxisFields.wf (f : AxisFields) : Bool :=
  fitsOpt fits8 f.shaft && fitsOpt fits8 f.unit && fitsOpt fitsSigned f.gearN && fitsOpt fits8 f.shift && fitsOpt fits32 f.slew &&
  fitsOpt fitsSigned f.trim && fitsOpt fits32 f.lagLimit && fitsOpt fits16 f.window && fitsOpt fits8 f.lagDef &&
  fitsOpt fits8 f.lossDef && fitsOpt fits8 f.port && fitsOpt fits8 f.station && fitsOpt fits8 f.channel

/-- AMEND DEFINITION's items fit. -/
def DefFields.wf (f : DefFields) : Bool :=
  fitsOpt fits8 f.port && fitsOpt fits8 f.station && fitsOpt fits8 f.line && fitsOpt fits8 f.code && fitsOpt fits8 f.scopeNum

/-- ENROL TRIGGER's items fit. -/
def TriggerEnrol.wf (f : TriggerEnrol) : Bool :=
  fits8 f.shaft && fits8 f.port && fits8 f.station && fits32 f.angle && fits8 f.divider

/-- AMEND TRIGGER's items fit. -/
def TriggerFields.wf (f : TriggerFields) : Bool :=
  fitsOpt fits8 f.shaft && fitsOpt fits8 f.port && fitsOpt fits8 f.station && fitsOpt fits32 f.angle && fitsOpt fits8 f.divider

/-- ENROL VIEW's items fit. -/
def ViewEnrol.wf (f : ViewEnrol) : Bool :=
  fitsOpt fits8 f.owner && fits8 f.trigger && fits8 f.firstTile && fits8 f.lastTile

/-- AMEND VIEW's items fit. -/
def ViewFields.wf (f : ViewFields) : Bool :=
  fitsOpt fits8 f.owner && fitsOpt fits8 f.trigger && fitsOpt fits8 f.firstTile && fitsOpt fits8 f.lastTile

/-- ENROL CONSOLE's items fit. -/
def ConsoleEnrol.wf (f : ConsoleEnrol) : Bool := fits8 f.port && fits8 f.station && fitsOpt fits8 f.high && fitsOpt fits8 f.low

/-- AMEND CONSOLE's items fit. -/
def ConsoleFields.wf (f : ConsoleFields) : Bool :=
  fitsOpt fits8 f.port && fitsOpt fits8 f.station && fitsOpt fits8 f.high && fitsOpt fits8 f.low

/-- AMEND HUB's items fit. -/
def HubFields.wf (f : HubFields) : Bool := fitsOpt fits8 f.holdLimit && fitsOpt fits16 f.watchBand && fitsOpt fits8 f.grace

/-- One FEEDBACK entry fits. -/
def FbEntry.wf (e : FbEntry) : Bool := fits8 e.channel && fitsSigned e.e

/-- A frame for the UNKNOWN_KIND_FRAME row: kind and station fit a byte, the payload is no longer than the longest, and no other
row stands for it. -/
def wfOther (p : PortId) (st kind : Nat) (payload : List Byte) : Bool :=
  fits8 st && fits8 kind && decide (payload.length ≤ longestPayload) && (fittingFrame p st kind payload).isNone

/-- A command that can arrive. -/
def Instr.wf : Instr → Bool
  | .cycleEvent _ => true
  | .run o tag n v => wfRequest o tag && fits8 n && fitsSigned v
  | .speed o tag n v => wfRequest o tag && fits8 n && fitsSigned v
  | .stop o tag n => wfRequest o tag && fits8 n
  | .inch o tag n v k => wfRequest o tag && fits8 n && fitsSigned v && fits8 k
  | .amendShaft o tag n f => wfRequest o tag && fits8 n && f.wf
  | .enrolAxis o tag f => wfRequest o tag && f.wf
  | .amendAxis o tag x f => wfRequest o tag && fits8 x && f.wf
  | .amendAxisAwait o tag x f => wfRequest o tag && fits8 x && f.wf
  | .engage o tag x => wfRequest o tag && fits8 x
  | .release o tag x => wfRequest o tag && fits8 x
  | .retireAxis o tag x => wfRequest o tag && fits8 x
  | .feedback _ st es => decide (st < 16) && decide (es.length = 1 ∨ es.length = 2) && es.all FbEntry.wf
  | .enrolDefinition o tag src scope _ _ => wfRequest o tag && src.wf && scope.wf
  | .amendDefinition o tag d f => wfRequest o tag && fits8 d && f.wf
  | .retireDefinition o tag d => wfRequest o tag && fits8 d
  | .raiseTrip _ st c => decide (st < 16) && fits8 c
  | .dropTrip _ st c => decide (st < 16) && fits8 c
  | .tripLineChange _ _ => true
  | .inhibitAsserted => true
  | .inhibitReleased => true
  | .acknowledge o tag d => wfRequest o tag && decide (d < 255)
  | .acknowledgeAll o tag => wfRequest o tag
  | .enrolUnit o tag u sh => wfRequest o tag && fits8 u && fits8 sh
  | .amendUnit o tag u sh => wfRequest o tag && fits8 u && fits8 sh
  | .retireUnit o tag u => wfRequest o tag && fits8 u
  | .grant o tag cp => wfRequest o tag && cp.wf
  | .yield o tag cp => wfRequest o tag && cp.wf
  | .enrolTrigger o tag f => wfRequest o tag && f.wf
  | .amendTrigger o tag g f => wfRequest o tag && fits8 g && f.wf
  | .retireTrigger o tag g => wfRequest o tag && fits8 g
  | .enrolView o tag f => wfRequest o tag && f.wf
  | .amendView o tag v f => wfRequest o tag && fits8 v && f.wf
  | .retireView o tag v => wfRequest o tag && fits8 v
  | .tile _ st g _ ix _ image => decide (st < 16) && fits8 g && fits8 ix && decide (image.length ≤ 1024)
  | .hold _ st => decide (st < 16)
  | .go _ st => decide (st < 16)
  | .holdTimerExpiry k => decide (1 ≤ k ∧ k ≤ 8)
  | .watch o tag x => wfRequest o tag && fits8 x
  | .unwatch o tag x => wfRequest o tag && fits8 x
  | .enrolConsole o tag f => wfRequest o tag && f.wf
  | .amendConsole o tag k f => wfRequest o tag && fits8 k && f.wf
  | .retireConsole o tag k => wfRequest o tag && fits8 k
  | .read o tag _ id => wfRequest o tag && fits8 id
  | .status o tag => wfRequest o tag
  | .restart o tag => wfRequest o tag
  | .amendHub o tag f => wfRequest o tag && f.wf
  | .readStatus _ => true
  | .readReply _ => true
  | .light _ => true
  | .lossOfLight _ => true
  | .badFrame _ => true
  | .idle _ st => decide (st < 16)
  | .unknownKindFrame p st kind payload => wfOther p st kind payload
  | .transmitterFree _ => true
  | .resetAsserted => true
  | .resetReleased => true
  | .writeRequest _ => true

end Sys2Proof
end

