-- ==== Sys2Proof/Safety.lean ====
section
/-! DEFINITION. What claims speak of: a hub that takes events, a line computer ready to send, the state a request of the line
computer leaves, and the invariants of the records. -/
namespace Sys2Proof.Machine
open Sys2Proof

/-! ### States a claim starts from -/

/-- RESET is released, the hub is NORMAL and no word is bad. -/
def Quiet (s : State) : Prop := s.resetPin = false ∧ s.failed = false ∧ s.badRecs = []

/-- No report is under way: true between commands. -/
def Settled (s : State) : Prop := Quiet s ∧ s.reports = []

/-- RESET is released, and no bad word turns a piece of work aside: the hub is NORMAL without one, or it is FAILED, where it goes on with the
word as read (R176). -/
def Awake (s : State) : Prop := s.resetPin = false ∧ (s.failed = true ∨ s.badRecs = [])

/-- A hub of either condition between commands: awake, with no report under way. -/
def Steady (s : State) : Prop := Awake s ∧ s.reports = []

/-- Requester `r` sends through `o`: the line computer is requester 0; a console's frame comes from its station on an UP port
(R147). -/
def SendsAs (o : Origin) (r : Nat) (s : State) : Prop :=
  match o with
  | .line => r = 0
  | .console p st => r ≠ 0 ∧ st < 16 ∧ (s.port p).state = .up ∧ consoleAt s p st = some r

/-- The state as the request unit finds it: a good frame of an UP port sets the bad run back and brings an ABSENT console back
before it is dispatched (R145, R162). -/
def arrived (o : Origin) (s : State) : State :=
  match o with
  | .line => s
  | .console p st =>
    match consoleAt s p st with
    | some k => consolePresent k (s.modPort p (fun q => { q with badRun := 0 }))
    | none => s.modPort p (fun q => { q with badRun := 0 })

/-- The request of `r` is in flight (R147 step 2, R148). -/
def taken (o : Origin) (r code tag : Nat) (s : State) : State :=
  setFlight r (some { kind := code, tag, awaited := none }) (arrived o s)

/-- Steps 1 to 5 of R147 let the request pass: the hub takes it, the sender has nothing in flight and the rights it needs. -/
def Ready (o : Origin) (r : Nat) (least : Rights) (s : State) : Prop :=
  Settled s ∧ SendsAs o r s ∧ flightOf s r = none ∧ ∃ has, rightsOf s r = some has ∧ Rights.rank least ≤ Rights.rank has

/-! ### What a request leaves -/

/-- The reply of requester `r`'s request in its slot (R149). -/
def answer (r code tag : Nat) (body : ReplyBody) (s : State) : State := putReply r { kind := code, tag, body } s

/-- DONE or NOTED without further fields (R150). -/
def plainReply (noted : Bool) : ReplyBody := if noted then .noted .plain else .done .plain

/-- The inch of a record ends CUT: its reply to the inch requester (R11). -/
def inchCutReply (cause : CutCause) (a : Shaft) (s : State) : State :=
  match a.inch with
  | some i => replyTo i.requester (.cut cause i.remaining) s
  | none => s

/-- The awaited trim of a record ends CUT: its reply to the awaiting requester (R40). -/
def trimCutReply (cause : CutCause) (a : Axis) (s : State) : State :=
  match a.await with
  | some w => replyTo w.requester (.cut cause (a.t - a.c)) s
  | none => s

/-! ### Sender of a command -/

/-- The sender of a request, none for the commands that are no requests. -/
def senderOf : Instr → Option Origin
  | .run o _ _ _ | .speed o _ _ _ | .stop o _ _ | .inch o _ _ _ _ | .amendShaft o _ _ _ | .enrolAxis o _ _ | .amendAxis o _ _ _
  | .amendAxisAwait o _ _ _ | .engage o _ _ | .release o _ _ | .retireAxis o _ _ | .enrolDefinition o _ _ _ _ _
  | .amendDefinition o _ _ _ | .retireDefinition o _ _ | .acknowledge o _ _ | .acknowledgeAll o _ | .enrolUnit o _ _ _
  | .amendUnit o _ _ _ | .retireUnit o _ _ | .grant o _ _ | .yield o _ _ | .enrolTrigger o _ _ | .amendTrigger o _ _ _
  | .retireTrigger o _ _ | .enrolView o _ _ | .amendView o _ _ _ | .retireView o _ _ | .watch o _ _ | .unwatch o _ _
  | .enrolConsole o _ _ | .amendConsole o _ _ _ | .retireConsole o _ _ | .read o _ _ _ | .status o _ | .restart o _
  | .amendHub o _ _ => some o
  | .cycleEvent _ | .feedback _ _ _ | .raiseTrip _ _ _ | .dropTrip _ _ _ | .tripLineChange _ _ | .inhibitAsserted
  | .inhibitReleased | .tile _ _ _ _ _ _ _ | .hold _ _ | .go _ _ | .holdTimerExpiry _ | .readStatus _ | .readReply _
  | .light _ | .lossOfLight _ | .badFrame _ | .idle _ _ | .unknownKindFrame _ _ _ _ | .transmitterFree _
  | .resetAsserted | .resetReleased | .writeRequest _ => none

/-- The request kind of a request (R181); 0 for the commands that are no requests. -/
def requestCode : Instr → Nat
  | .read _ _ _ _ => 0x01
  | .enrolAxis _ _ _ | .enrolDefinition _ _ _ _ _ _ | .enrolUnit _ _ _ _ | .enrolTrigger _ _ _ | .enrolView _ _ _
  | .enrolConsole _ _ _ => 0x02
  | .amendShaft _ _ _ _ | .amendAxis _ _ _ _ | .amendAxisAwait _ _ _ _ | .amendDefinition _ _ _ _ | .amendUnit _ _ _ _
  | .amendTrigger _ _ _ _ | .amendView _ _ _ _ | .amendConsole _ _ _ _ | .amendHub _ _ _ => 0x03
  | .retireAxis _ _ _ | .retireDefinition _ _ _ | .retireUnit _ _ _ | .retireTrigger _ _ _ | .retireView _ _ _
  | .retireConsole _ _ _ => 0x04
  | .run _ _ _ _ => 0x10
  | .speed _ _ _ _ => 0x11
  | .stop _ _ _ => 0x12
  | .inch _ _ _ _ _ => 0x13
  | .engage _ _ _ => 0x18
  | .release _ _ _ => 0x19
  | .grant _ _ _ => 0x20
  | .yield _ _ _ => 0x21
  | .acknowledge _ _ _ | .acknowledgeAll _ _ => 0x28
  | .watch _ _ _ => 0x30
  | .unwatch _ _ _ => 0x31
  | .status _ _ => 0x38
  | .restart _ _ => 0x3F
  | .cycleEvent _ | .feedback _ _ _ | .raiseTrip _ _ _ | .dropTrip _ _ _ | .tripLineChange _ _ | .inhibitAsserted
  | .inhibitReleased | .tile _ _ _ _ _ _ _ | .hold _ _ | .go _ _ | .holdTimerExpiry _ | .readStatus _ | .readReply _
  | .light _ | .lossOfLight _ | .badFrame _ | .idle _ _ | .unknownKindFrame _ _ _ _ | .transmitterFree _
  | .resetAsserted | .resetReleased | .writeRequest _ => 0

/-- The tag of a request (R147); 0 for the commands that are no requests. -/
def requestTag : Instr → Nat
  | .run _ t _ _ | .speed _ t _ _ | .stop _ t _ | .inch _ t _ _ _ | .amendShaft _ t _ _ | .enrolAxis _ t _ | .amendAxis _ t _ _
  | .amendAxisAwait _ t _ _ | .engage _ t _ | .release _ t _ | .retireAxis _ t _ | .enrolDefinition _ t _ _ _ _
  | .amendDefinition _ t _ _ | .retireDefinition _ t _ | .acknowledge _ t _ | .acknowledgeAll _ t | .enrolUnit _ t _ _
  | .amendUnit _ t _ _ | .retireUnit _ t _ | .grant _ t _ | .yield _ t _ | .enrolTrigger _ t _ | .amendTrigger _ t _ _
  | .retireTrigger _ t _ | .enrolView _ t _ | .amendView _ t _ _ | .retireView _ t _ | .watch _ t _ | .unwatch _ t _
  | .enrolConsole _ t _ | .amendConsole _ t _ _ | .retireConsole _ t _ | .read _ t _ _ | .status _ t | .restart _ t
  | .amendHub _ t _ => t
  | .cycleEvent _ | .feedback _ _ _ | .raiseTrip _ _ _ | .dropTrip _ _ _ | .tripLineChange _ _ | .inhibitAsserted
  | .inhibitReleased | .tile _ _ _ _ _ _ _ | .hold _ _ | .go _ _ | .holdTimerExpiry _ | .readStatus _ | .readReply _
  | .light _ | .lossOfLight _ | .badFrame _ | .idle _ _ | .unknownKindFrame _ _ _ _ | .transmitterFree _
  | .resetAsserted | .resetReleased | .writeRequest _ => 0

/-- The rights a request needs (R152), lowest where every requester may send it and for the commands that are no requests. -/
def leastRights : Instr → Rights
  | .run _ _ _ _ | .speed _ _ _ _ | .inch _ _ _ _ _ | .engage _ _ _ | .release _ _ _ | .acknowledge _ _ _ | .acknowledgeAll _ _
  | .grant _ _ _ | .yield _ _ _ => .operator
  | .amendAxis _ _ _ f | .amendAxisAwait _ _ _ f =>
    if f.shaft.isSome || f.unit.isSome then .line
    else if f.gearN.isSome || f.shift.isSome || f.lagLimit.isSome || f.window.isSome || f.lagDef.isSome || f.lossDef.isSome ||
        f.port.isSome || f.station.isSome || f.channel.isSome then .setter
    else .operator
  | .amendTrigger _ _ _ f => if f.shaft.isSome || f.port.isSome || f.station.isSome then .line else .setter
  | .amendShaft _ _ _ _ | .enrolAxis _ _ _ | .retireAxis _ _ _ | .enrolDefinition _ _ _ _ _ _ | .amendDefinition _ _ _ _
  | .retireDefinition _ _ _ | .enrolUnit _ _ _ _ | .amendUnit _ _ _ _ | .retireUnit _ _ _ | .enrolTrigger _ _ _
  | .retireTrigger _ _ _ | .enrolConsole _ _ _ | .amendConsole _ _ _ _ | .retireConsole _ _ _ | .restart _ _
  | .amendHub _ _ _ => .line
  | .stop _ _ _ | .enrolView _ _ _ | .amendView _ _ _ _ | .retireView _ _ _ | .watch _ _ _ | .unwatch _ _ _ | .read _ _ _ _
  | .status _ _ => .viewer
  | .cycleEvent _ | .feedback _ _ _ | .raiseTrip _ _ _ | .dropTrip _ _ _ | .tripLineChange _ _ | .inhibitAsserted
  | .inhibitReleased | .tile _ _ _ _ _ _ _ | .hold _ _ | .go _ _ | .holdTimerExpiry _ | .readStatus _ | .readReply _
  | .light _ | .lossOfLight _ | .badFrame _ | .idle _ _ | .unknownKindFrame _ _ _ _ | .transmitterFree _
  | .resetAsserted | .resetReleased | .writeRequest _ => .viewer

/-- The fields fit the request's kind at step 4 of R147: an AMEND names at least one field, the object of HUB is 0, and the line
computer names the owner of a view. -/
def fieldsFit : Instr → Bool
  | .amendShaft _ _ _ f => namesShaftField f
  | .amendAxis _ _ _ f => placementNamed f || settingNamed f || trimFieldNamed f
  | .amendDefinition _ _ _ f => namesDefField f
  | .amendTrigger _ _ _ f => cameraNamed f || firingNamed f
  | .enrolView o _ f => o != .line || f.owner.isSome
  | .amendView _ _ _ f => namesViewField f
  | .amendConsole _ _ _ f => namesConsoleField f
  | .amendHub _ _ f => namesHubField f
  | .read _ _ kind id => kind != .hub || id == 0
  | .run _ _ _ _ | .speed _ _ _ _ | .stop _ _ _ | .inch _ _ _ _ _ | .enrolAxis _ _ _ | .amendAxisAwait _ _ _ _ | .engage _ _ _
  | .release _ _ _ | .retireAxis _ _ _ | .enrolDefinition _ _ _ _ _ _ | .retireDefinition _ _ _ | .acknowledge _ _ _
  | .acknowledgeAll _ _ | .enrolUnit _ _ _ _ | .amendUnit _ _ _ _ | .retireUnit _ _ _ | .grant _ _ _ | .yield _ _ _
  | .enrolTrigger _ _ _ | .retireTrigger _ _ _ | .retireView _ _ _ | .watch _ _ _ | .unwatch _ _ _ | .enrolConsole _ _ _
  | .retireConsole _ _ _ | .status _ _ | .restart _ _ => true
  | .cycleEvent _ | .feedback _ _ _ | .raiseTrip _ _ _ | .dropTrip _ _ _ | .tripLineChange _ _ | .inhibitAsserted
  | .inhibitReleased | .tile _ _ _ _ _ _ _ | .hold _ _ | .go _ _ | .holdTimerExpiry _ | .readStatus _ | .readReply _
  | .light _ | .lossOfLight _ | .badFrame _ | .idle _ _ | .unknownKindFrame _ _ _ _ | .transmitterFree _
  | .resetAsserted | .resetReleased | .writeRequest _ => true

/-- The port a station's frame arrives on, none for the commands that are no frames of a station. -/
def framePort : Instr → Option PortId
  | .feedback p _ _ | .raiseTrip p _ _ | .dropTrip p _ _ | .tile p _ _ _ _ _ _ | .hold p _ | .go p _ | .idle p _ => some p
  | _ => none

/-! ### Invariants of the records -/

/-- Speeds of a shaft (R4, R13): V, Vt and the inch limit within V_max, V_max in its range, V zero in STANDBY and TRIPPED. -/
def SpeedOk (a : Shaft) : Prop :=
  a.v.natAbs ≤ a.vMax ∧ a.vt.natAbs ≤ a.vMax ∧ a.inchLimit ≤ a.vMax ∧ a.vMax ≤ 8388607 ∧
  ((a.state = .standby ∨ a.state = .tripped) → a.v = 0)

/-- Every shaft keeps its speed bounds. -/
def SpeedsOk (s : State) : Prop := ∀ i : ShaftId, SpeedOk (s.shaft i)

/-- Gear, trim and unit of an axis (R22, R26, R31, R34, R46): X = W + C while ENGAGED; N, S, r, C, T and the unit within their ranges. -/
def AxisOk (a : Axis) : Prop :=
  (a.engaged = true → a.x = a.w + BitVec.ofInt 32 a.c) ∧ (-8388608 ≤ a.c ∧ a.c ≤ 8388607) ∧ (-524288 ≤ a.t ∧ a.t ≤ 524287) ∧
  (-8388608 ≤ a.gearN ∧ a.gearN ≤ 8388607) ∧ a.shift ≤ 24 ∧ a.rem < 2 ^ a.shift ∧ a.unit ≤ 15

/-- Every axis record keeps its gear and trim laws and a unit in range. -/
def AxesOk (s : State) : Prop := ∀ q ∈ s.axes, AxisOk q.2

/-- Every table of records has its ids strictly rising, one record to an id; no definition has two entries in the active trip list,
the definition of each entry exists, and each watch set is in ascending axis id (R61, R70, R133). -/
def TablesOk (s : State) : Prop :=
  (tblIds s.axes).Pairwise (· < ·) ∧ (tblIds s.defs).Pairwise (· < ·) ∧ (tblIds s.units).Pairwise (· < ·) ∧
  (tblIds s.triggers).Pairwise (· < ·) ∧ (tblIds s.views).Pairwise (· < ·) ∧ (tblIds s.consoles).Pairwise (· < ·) ∧
  (s.trips.map (·.defn)).Nodup ∧ (∀ e ∈ s.trips, (s.defn e.defn).isSome = true) ∧
  ∀ q ∈ s.consoles, q.2.watches.Pairwise (fun v w => v.axis < w.axis)

/-- While the hub is NORMAL, the demand field of each shaft is the strongest stop its covering entries call for, and a shaft with a
demand is in TRIP_STOPPING or TRIPPED (R14, R74). -/
def DemandsOk (s : State) : Prop :=
  s.failed = false → ∀ i : ShaftId, (s.shaft i).demand = demandOf s i ∧
    ((s.shaft i).demand ≠ .none → (s.shaft i).state = .tripStopping ∨ (s.shaft i).state = .tripped)

/-- A grant stack (R91): at most 4, none twice, each the line computer or an enrolled PRESENT console. -/
def StackOk (s : State) (st : List Nat) : Prop :=
  st.length ≤ 4 ∧ st.Nodup ∧ ∀ r ∈ st, r = 0 ∨ ∃ c, s.console r = some c ∧ c.present = true

/-- Every grant stack is as R91 says. -/
def GrantsOk (s : State) : Prop := (∀ q ∈ s.units, StackOk s q.2.stack) ∧ ∀ i : ShaftId, StackOk s s.shaftStacks[i.val]

/-- Trigger lists (R101): each in ascending order of angle and then id, holding exactly the triggers of its shaft. -/
def TriggersOk (s : State) : Prop :=
  ∀ i : ShaftId,
    List.Pairwise (fun g h => standsBefore (placeKey s g) (placeKey s h) = true) s.triggerLists[i.val] ∧
    ∀ g, g ∈ s.triggerLists[i.val] ↔ ∃ t, s.trigger g = some t ∧ t.shaft = i

/-- The room of the segments, thin levels, STROBE queues and the unmatched-source set (R66, R109, R118). -/
def RoomOk (s : State) : Prop :=
  (∀ q ∈ s.consoles, q.2.slots.length ≤ 32) ∧ (∀ q ∈ s.views, q.2.thin ≤ 3) ∧
  (∀ p : PortId, (s.port p).strobeQ.length ≤ 8) ∧ s.unmatched.length ≤ 16

/-- D0 exists with its source, scope and category, never maskable and never held (R58, R67). -/
def CatchAllOk (s : State) : Prop :=
  ∃ d, s.defn 0 = some d ∧ d.src = .catchall ∧ d.scope = .all ∧ d.category = .quick ∧ d.maskable = false ∧ d.held = false

/-- A FAILED hub has every shaft TRIPPED at V = 0 and Vt = 0, and every axis RELEASED (R176). -/
def FailedOk (s : State) : Prop :=
  s.failed = true ∧ (∀ i : ShaftId, (s.shaft i).state = .tripped ∧ (s.shaft i).v = 0 ∧ (s.shaft i).vt = 0) ∧ ∀ q ∈ s.axes, q.2.engaged = false

end Sys2Proof.Machine
end

