-- ==== Sys2Proof/Certificates/Slice0/Obligations.lean ====
section
/-! DEFINITION. The statements for the provers, group by group in the manual's order, after the helper definitions they share. -/
namespace Sys2Proof.Machine
open Sys2Proof

/-- A console but for its notice flags, its reply slot and the pending flags of its watch entries. -/
def consoleRest (c : Console) : Console := { c with flags := .clear, slot := none, watches := c.watches.map (fun w => { w with pending := false }) }

/-- A port but for the classes its consoles' replies, notices and watch entries wait in. -/
def portRest (q : Port) : Port := { q with replyQ := [], noticeQ := [], valueQ := [] }

/-- Notices, replies and watch marks are all that has changed in the requester table. -/
def PartyFrame (s t : State) : Prop :=
  (∀ k, (t.console k).map consoleRest = (s.console k).map consoleRest) ∧ { t.line with flags := s.line.flags, slot := s.line.slot } = s.line

/-- What a change of the active trip list may reach and nothing more: shafts, axes, definitions, the list and the unmatched-source set, with
notices, replies and watch marks for the requesters. -/
def TripFrame (s t : State) : Prop :=
  { t with shafts := s.shafts, axes := s.axes, defs := s.defs, trips := s.trips, unmatched := s.unmatched, overflow := s.overflow, consoles := s.consoles, line := s.line, ports := s.ports } = s ∧
  PartyFrame s t ∧ ∀ p, portRest (t.port p) = portRest (s.port p)

/-- A run of master advances of one shaft at given speeds: the record it leaves and the sum of the travels. -/
def advanceRun (a : Shaft) : List Int → Shaft × Int
  | [] => (a, 0)
  | v :: vs =>
    let b := { a with v }
    let r := advanceRun (advanced b) vs
    (r.1, (masterAdvance b).delta + r.2)

/-- A shaft record after a crossing is counted against its inch (R10). -/
def countedInch (cross : Int) (a : Shaft) : Shaft :=
  match a.inch with
  | none => a
  | some i =>
    if cross = (if i.forward then 1 else -1) ∧ 0 < i.remaining then
      if i.remaining = 1 ∧ a.state = .inching then
        { a with inch := some { i with remaining := 0 }, state := .stopping, vt := 0 }
      else { a with inch := some { i with remaining := i.remaining - 1 } }
    else a

/-- A shaft record after stage 6 (R5). -/
def endedStop (a : Shaft) : Shaft :=
  if a.v = 0 ∧ a.state = .stopping then { a with state := .standby, vt := 0, inch := none }
  else if a.v = 0 ∧ a.state = .tripStopping then { a with state := .tripped, tripRate := none }
  else a

/-- The loss cause of an axis rises at its shaft's next event: the window count reaches 0 there (R53). -/
def lossRises (a : Axis) : Bool := decide (a.window ≠ 0 ∧ a.windowCount = 1) && !a.lossCause

/-- A report of an axis's lag cause, under the definition its record names (R52). -/
def lagReport (x : Nat) (a : Axis) (present : Bool) : Report := { axis := x, kind := .lag, defn := a.lagDef, present }

/-- A report of an axis's loss cause, under the definition its record names (R53). -/
def lossReport (x : Nat) (a : Axis) (present : Bool) : Report := { axis := x, kind := .loss, defn := a.lossDef, present }

/-- A list where a condition holds, none where it does not. -/
def listIf {α : Type} (b : Bool) (l : List α) : List α := if b then l else []

/-- A run of gear steps of one axis over given travels of its shaft: the record it leaves and the sum of the geared travels. -/
def gearRun (a : Axis) : List Int → Axis × Int
  | [] => (a, 0)
  | d :: ds =>
    let r := gearRun (stepAxis a d) ds
    (r.1, gearTravel a d + r.2)

/-- The record of an axis after a cycle event of its shaft with travel `delta` (R22, R25, R26, R27, R39, R53). -/
def steppedAxis (delta : Int) (a : Axis) : Axis :=
  let p := delta * a.gearN + a.rem
  let d := p / (2 : Int) ^ a.shift
  let c := a.c + max (-(a.slew : Int)) (min (a.slew : Int) (a.t - a.c))
  { a with
    rem := (p % (2 : Int) ^ a.shift).toNat
    w := a.w + BitVec.ofInt 32 d
    c := if a.engaged then c else a.c
    x := if a.engaged then a.x + BitVec.ofInt 32 d + BitVec.ofInt 32 (c - a.c) else a.y.getD a.x
    windowCount := if a.window = 0 then a.windowCount else a.windowCount - 1
    lossCause := a.lossCause || lossRises a
    await := if a.engaged ∧ c = a.t then none else a.await }

/-- A cycle event of a shaft makes a watch entry pending as its axes are stepped (R53, R136): the entry's axis follows the shaft, and its C
changes and then lies the watch band or further from the trim last sent, or its loss cause rises. -/
def stepMarks (s : State) (sh : ShaftId) (delta : Int) (w : Watch) : Bool := match s.axis w.axis with
  | some a =>
    let c := (steppedAxis delta a).c
    decide (a.shaft = sh) && (lossRises a || (decide (c ≠ a.c) && match w.lastTrim with
      | some v => decide (s.hub.watchBand ≤ (c - v).natAbs)
      | none => true))
  | none => false

/-- The SETPOINT frames of one event for a port, in ascending station, for the axes as the event leaves them: the channels whose axes
follow the shaft, in channel order (R54). -/
def framesOfEvent (sh : ShaftId) (cycle : Count16) (axes : Tbl Axis) (p : PortId) : List SetpointFrame :=
  ((List.range 16).map (fun st =>
    { station := st, shaft := sh, cycle, entries := [0, 1].flatMap (fun ch =>
        (axes.filter (fun q => decide (q.2.shaft = sh ∧ q.2.port = p ∧ q.2.station = st ∧ q.2.channel = ch))).map (fun q =>
          { channel := ch, x := q.2.x, enable := q.2.engaged, trimming := q.2.engaged && decide (q.2.c ≠ q.2.t) })) })).filter
    (fun f => !f.entries.isEmpty)

/-- Two SETPOINT frames are for the same station and from the same shaft (R55). -/
def sameTarget (f g : SetpointFrame) : Bool := decide (f.station = g.station ∧ f.shaft = g.shaft)

/-- A SETPOINT queue that new frames are offered to: a waiting frame for the same station and shaft is replaced in its place, the
others of the new frames join the tail (R55). -/
def superseded (new q : List SetpointFrame) : List SetpointFrame :=
  q.map (fun g => (new.find? (fun f => sameTarget f g)).getD g) ++ new.filter (fun f => !q.any (sameTarget f))

/-- The lowest axis id not in use is `x` (R35). -/
def NextAxis (s : State) (x : Nat) : Prop := x < 64 ∧ s.axis x = none ∧ ∀ y, y < x → (s.axis y).isSome = true

/-- AMEND AXIS fields with none named. -/
def noAxisFields : AxisFields :=
  { shaft := none, unit := none, gearN := none, shift := none, slew := none, trim := none, lagLimit := none, window := none,
    lagDef := none, lossDef := none, port := none, station := none, channel := none }

/-- The watch entries of an axis are made pending where its T has changed (R136). -/
def markedIf (changed : Bool) (x : Nat) (s : State) : State := if changed then markAxis x s else s

/-- The state after AMEND AXIS has put a record in place: the watch entries of the axis marked where asked, and the cause changes reported to
the trip unit, which takes them (R43, R45, R52, R53, R136). -/
def amendedTo (x : Nat) (b : Axis) (marked : Bool) (changes : List Report) (u : State) : State :=
  (drainReports { markedIf marked x (u.setAxis x b) with reports := changes }).state

/-- A HALT entry covers an axis (R47): scope SHAFT or ALL with the axis's shaft in its coverage, scope UNIT with its unit, scope SOURCE
with the axis among its source axes. -/
def HaltCovered (s : State) (x : Nat) (a : Axis) : Prop :=
  ∃ e ∈ s.trips, ∃ d, s.defn e.defn = some d ∧ d.category = .halt ∧
    ((d.scope = .all ∧ a.shaft ∈ e.coverage) ∨ (∃ n, d.scope = .shaft n ∧ a.shaft ∈ e.coverage) ∨ d.scope = .unit a.unit ∨
      (d.scope = .source ∧ x ∈ e.sourceAxes))

/-- The definition index given to an ENROL DEFINITION is `d` (R59). -/
def NextDefinition (s : State) (d : Nat) : Prop := 1 ≤ d ∧ d ≤ 31 ∧ s.defn d = none ∧ ∀ y, 1 ≤ y → y < d → (s.defn y).isSome = true

/-- Command `i` brings source `src` to its trip level in `s`, and the trip unit takes it in `s0`: a trip line that was at rest, or a TRIP
RAISE of a station of an UP port whose source is absent (R62, R63). -/
def BringsPresent (i : Instr) (s : State) (src : Source) (s0 : State) : Prop :=
  (∃ n : Fin 8, i = .tripLineChange n true ∧ s.tripPins[n.val] = false ∧ src = .line n.val ∧
    s0 = { s with tripPins := s.tripPins.set n.val true }) ∨
  ∃ (p : PortId) (st code : Nat), i = .raiseTrip p st code ∧ st < 16 ∧ (s.port p).state = .up ∧
    src = .station p.val st code ∧ stationPresent s src = false ∧ s0 = arrived (.console p st) s

/-- The values R59 refuses RANGE: CATCHALL, a parameter out of range, SOURCE scope on a line or link, a unit or shaft out of range. -/
def DefMisfit (src : SourceSpec) (scope : Scope) : Prop :=
  src = .catchall ∨ (∃ n, src = .line n ∧ 7 < n) ∨ (∃ p st c, src = .station p st c ∧ (5 < p ∨ 15 < st ∨ 255 < c)) ∨
  (∃ p, src = .link p ∧ 5 < p) ∨ (scope = .source ∧ ((∃ n, src = .line n) ∨ ∃ p, src = .link p)) ∨
  (∃ u, scope = .unit u ∧ 15 < u) ∨ ∃ n, scope = .shaft n ∧ 3 < n

/-- Another definition than `d` watches the same LINE, STATION or LINK source (R58, R59). -/
def WatchedTwice (s : State) (d : Nat) (src : SourceSpec) : Prop :=
  src ≠ .lag ∧ src ≠ .loss ∧ src ≠ .catchall ∧ ∃ q ∈ s.defs, q.1 ≠ d ∧ q.2.src = src

/-- AMEND DEFINITION fields with none named. -/
def noDefFields : DefFields :=
  { port := none, station := none, kind := none, line := none, code := none, scope := none, scopeNum := none, category := none, maskable := none }

/-- A new entry of a definition at its creation (R71). -/
def raisedEntry (d : Nat) (cov : List ShaftId) (axes : List Nat) (src : Source) : Entry :=
  { defn := d, state := .raised, coverage := cov, sourceAxes := axes, firstSource := src, ackedBy := none }

/-- Command `i` takes source `src` from its trip level in `s`, and the trip unit takes it in `s0`: a trip line that was at its trip level, a TRIP
DROP of a station of an UP port whose source is present, or the 16th good frame of a port that has been UP before, PORTS set by it
(R62, R63, R163). -/
def BringsAbsent (i : Instr) (s : State) (src : Source) (s0 : State) : Prop :=
  (∃ n : Fin 8, i = .tripLineChange n false ∧ s.tripPins[n.val] = true ∧ src = .line n.val ∧
    s0 = { s with tripPins := s.tripPins.set n.val false }) ∨
  (∃ (p : PortId) (st code : Nat), i = .dropTrip p st code ∧ st < 16 ∧ (s.port p).state = .up ∧
    src = .station p.val st code ∧ stationPresent s src = true ∧ s0 = arrived (.console p st) s) ∨
  ∃ p : PortId, (framePort i = some p ∨ ∃ st, senderOf i = some (.console p st)) ∧ (s.port p).state = .aligning ∧ 15 ≤ (s.port p).goodRun ∧
    s.linkSeen[p.val] = true ∧ src = .link p.val ∧ s0 = setPorts (s.setPort p { s.port p with
      state := .up, goodRun := 0, badRun := 0, setpointQ := [], strobeQ := [], replyQ := [], noticeQ := [], valueQ := [] })

/-- A record released by an order (R48, R49). -/
def releasedAxis (a : Axis) : Axis := if a.engaged then { a with engaged := false, await := none, lagCause := false } else a

/-- The axes a new or grown HALT entry of definition `df` releases (R75, R76): those of its unit, its source axes `xs`, or those of the shafts
it halts. -/
def ReleasedBy (df : Definition) (cov : List ShaftId) (xs : List Nat) (x : Nat) (a : Axis) : Prop :=
  df.category = .halt ∧ (df.scope = .unit a.unit ∨ (df.scope = .source ∧ x ∈ xs) ∨
    ((df.scope = .all ∨ ∃ n, df.scope = .shaft n) ∧ a.shaft ∈ cov))

/-- The axis records of `t` are those of `s`, but for those released (R48, R76). -/
def AxesReleased (rel : Nat → Axis → Prop) (s t : State) : Prop :=
  ∀ x a, s.axis x = some a → (rel x a → t.axis x = some (releasedAxis a)) ∧ (¬ rel x a → t.axis x = some a)

/-- The creation of the entry of definition `d` from `s` to `t` (R71, R74 to R77): at the tail, RAISED, TRIPS set, the axes released that it
releases, the demand of each covered shaft formed afresh, and the covered shafts of a HALT of scope SHAFT or ALL TRIPPED at V = 0. -/
def EntryMade (s t : State) (d : Nat) (df : Definition) (cov : List ShaftId) (xs : List Nat) (src : Source) : Prop :=
  t.trips = s.trips ++ [raisedEntry d cov xs src] ∧ t.line.flags.trips = true ∧ AxesReleased (ReleasedBy df cov xs) s t ∧
  ∀ sh, (sh ∉ cov → t.shaft sh = s.shaft sh) ∧ (sh ∈ cov → (t.shaft sh).demand = demandOf t sh ∧
    (df.category ≠ .ramp → (t.shaft sh).demand = .quick) ∧
    (df.category = .halt → (df.scope = .all ∨ ∃ n, df.scope = .shaft n) → (t.shaft sh).state = .tripped ∧ (t.shaft sh).v = 0))

/-- The cause of a definition just enrolled or amended, `df`, whose source stands already is raised at once, and the source leaves the
unmatched-source set (R59, R60, R68): from `u`, whose list and set are those of `s`, to `t`. It is held where it is maskable under INHIBIT;
otherwise it has a new entry, with TRIPS, and the covered shafts and the axes take what the entry orders of them (R74 to R77), under HALT with STOPCHAIN
open (R81). D0's own entry may move with the set, and where a released axis had a lag cause its drop is reported, which may move further entries. -/
def RaisedAtOnce (s u t : State) (d : Nat) (df : Definition) (src : Source) : Prop :=
  let others := fun (v : State) => v.trips.filter (fun e => e.defn != 0)
  let cov := coverageOf s df
  let xs := sourceAxesOf s df
  let set := t.unmatched = s.unmatched.filter (· != src)
  TripFrame u t ∧
  (df.maskable = true → s.inhibitPin = true →
    t.defn d = some { df with cause := true, held := true } ∧ t.axes = s.axes ∧ set ∧ others t = others s) ∧
  ((df.maskable = false ∨ s.inhibitPin = false) →
    t.line.flags.trips = true ∧ AxesReleased (ReleasedBy df cov xs) s t ∧ (df.category ≠ .halt → t.axes = s.axes) ∧
    (df.category = .halt → t.stopchainOpen = true) ∧
    (∀ sh ∈ cov, (t.shaft sh).demand = demandOf t sh ∧ (df.category ≠ .ramp → (t.shaft sh).demand = .quick) ∧
      (df.category = .halt → (df.scope = .all ∨ ∃ n, df.scope = .shaft n) → (t.shaft sh).state = .tripped ∧ (t.shaft sh).v = 0)) ∧
    ((∀ x a, s.axis x = some a → ReleasedBy df cov xs x a → a.lagCause = false) →
      t.defn d = some { df with cause := true } ∧ set ∧ others t = others s ++ [raisedEntry d cov xs src]))

/-- The entry `e` of definition `d` from `s` to `t`: in its place, in the state given, with source axes `xs` and their shafts taken in, its first
source kept, TRIPS set, the axes it takes in released under HALT of scope SOURCE, and the demand of each shaft taken in formed afresh
(R72, R73, R74, R76). -/
def EntryGrown (s t : State) (d : Nat) (df : Definition) (e : Entry) (st : EntryState) (acked : Option Nat) (xs : List Nat) : Prop :=
  ∃ g, entryOf t d = some g ∧ g.state = st ∧ g.ackedBy = acked ∧ g.firstSource = e.firstSource ∧
    (∀ x, x ∈ g.sourceAxes ↔ x ∈ e.sourceAxes ∨ x ∈ xs) ∧
    (∀ sh, sh ∈ g.coverage ↔ sh ∈ e.coverage ∨ ∃ x a, x ∈ xs ∧ x ∉ e.sourceAxes ∧ s.axis x = some a ∧ a.shaft = sh) ∧
    t.trips.map (·.defn) = s.trips.map (·.defn) ∧ (∀ f ∈ s.trips, f.defn ≠ d → f ∈ t.trips) ∧ t.line.flags.trips = true ∧
    AxesReleased (fun x _ => df.category = .halt ∧ df.scope = .source ∧ x ∈ xs ∧ x ∉ e.sourceAxes) s t ∧
    ∀ sh, (sh ∈ g.coverage → sh ∉ e.coverage → (t.shaft sh).demand = demandOf t sh) ∧
      ((sh ∈ e.coverage ∨ sh ∉ g.coverage) → t.shaft sh = s.shaft sh)

/-- The cause of definition `d` comes present by source `src`, from `s` to `t` (R65, R68, R71 to R77): without an entry it is held where the definition is
maskable under INHIBIT, and otherwise its entry is created (said here where no axis that the entry releases has a lag cause); a CLEARED
entry is RAISED again in its place, another stands. -/
def CauseCome (s t : State) (d : Nat) (df : Definition) (src : Source) : Prop :=
  let cov := coverageOf s df
  let xs := sourceAxesOf s df
  (entryOf s d = none → df.maskable = true → s.inhibitPin = true → t = s.setDefn d { df with cause := true, held := true }) ∧
  (entryOf s d = none → (df.maskable = false ∨ s.inhibitPin = false) →
    (∀ x a, s.axis x = some a → ReleasedBy df cov xs x a → a.lagCause = false) →
    EntryMade s t d df cov xs src ∧ TripFrame s t ∧ t.unmatched = s.unmatched ∧ t.defn d = some { df with cause := true } ∧
      ∀ j, j ≠ d → t.defn j = s.defn j) ∧
  ∀ e, entryOf s d = some e →
    (e.state ≠ .cleared → t = s.setDefn d { df with cause := true }) ∧
    (e.state = .cleared → (df.category ≠ .halt ∨ df.scope ≠ .source ∨ ∀ q ∈ s.axes, q.2.lagCause = false) →
      EntryGrown s t d df e .raised none xs ∧ TripFrame s t ∧ t.unmatched = s.unmatched ∧ t.defn d = some { df with cause := true } ∧
        ∀ j, j ≠ d → t.defn j = s.defn j)

/-- The cause of definition `d` goes absent, from `s` to `t` (R65, R72, R74, R77): without an entry, cause and held are cleared; an entry
RAISED becomes CLEARED in its place, acked-by kept, with TRIPS and the watches of the covered axes marked; an entry ACKED leaves the
list, and the demand of each shaft it covered is formed afresh. -/
def CauseGone (s t : State) (d : Nat) (df : Definition) : Prop :=
  (entryOf s d = none → t = s.setDefn d { df with cause := false, held := false }) ∧
  ∀ e, entryOf s d = some e →
    (e.state = .raised → t = setFlag .trips (markCovered e.coverage
      { s.setDefn d { df with cause := false } with
        trips := s.trips.map (fun g => if g.defn = d then { g with state := .cleared, ackedBy := e.ackedBy } else g) })) ∧
    (e.state = .cleared → t = s.setDefn d { df with cause := false }) ∧
    (e.state = .acked → t.trips = s.trips.filter (fun g => g.defn != d) ∧ t.defn d = some { df with cause := false } ∧
      t.line.flags.trips = true ∧ t.axes = s.axes ∧ TripFrame s t ∧ t.unmatched = s.unmatched ∧ (∀ j, j ≠ d → t.defn j = s.defn j) ∧
      ∀ sh, (sh ∈ e.coverage → (t.shaft sh).demand = demandOf t sh) ∧ (sh ∉ e.coverage → t.shaft sh = s.shaft sh))

/-- A source without a definition comes present, from `s` to `t` (R66, R67): nothing where it is in the unmatched-source set; otherwise it
joins the set, or the overflow mark is set where 16 stand in it; D0's cause follows, its entry created, or back in RAISED from CLEARED. -/
def SetJoined (src : Source) (s t : State) : Prop :=
  (src ∈ s.unmatched → t = s) ∧
  (src ∉ s.unmatched →
    (s.unmatched.length < 16 → (s.unmatched ≠ [] ∨ s.overflow = true) → t = { s with unmatched := s.unmatched ++ [src] }) ∧
    (16 ≤ s.unmatched.length → t = { s with overflow := true }) ∧
    (s.unmatched = [] → s.overflow = false → t.unmatched = [src] ∧ TripFrame s t ∧ t.axes = s.axes ∧
      ∀ df, s.defn 0 = some df → t.defn 0 = some { df with cause := true } ∧
        (entryOf s 0 = none → EntryMade s t 0 df [0, 1, 2, 3] [] src) ∧
        ∀ e, entryOf s 0 = some e →
          (e.state = .cleared → EntryGrown s t 0 df e .raised none []) ∧
          (e.state ≠ .cleared → t = { s with unmatched := [src] }.setDefn 0 { df with cause := true })))

/-- A source without a definition goes absent, from `s` to `t` (R66, R67): it leaves the unmatched-source set where it is there, and D0's
cause goes absent with the last of them where the overflow mark is clear. -/
def SetLeft (src : Source) (s t : State) : Prop :=
  (src ∉ s.unmatched → t = s) ∧
  (src ∈ s.unmatched → (s.overflow = true ∨ ∃ o ∈ s.unmatched, o ≠ src) →
    t = { s with unmatched := s.unmatched.filter (· != src) }) ∧
  (src ∈ s.unmatched → s.overflow = false → (∀ o ∈ s.unmatched, o = src) → ∀ df, s.defn 0 = some df →
    CauseGone { s with unmatched := [] } t 0 df)

/-- A source stands at its trip level as the trip unit knows it (R59, R62 to R64): a line by its pin, a link by its port and link-seen
mark, a station source by its place in the unmatched-source set. -/
def Standing (s : State) : Source → Prop
  | .line n => ∃ i : Fin 8, i.val = n ∧ s.tripPins[i.val] = true
  | .link n => ∃ p : PortId, p.val = n ∧ s.linkSeen[p.val] = true ∧ (s.port p).state ≠ .up
  | src => src ∈ s.unmatched

/-- The source of a report (R64). -/
def reportSource (r : Report) : Source := match r.kind with
  | .lag => .lag r.axis
  | .loss => .loss r.axis

/-- Rights of a requester as the requester table holds them, as a rank (R93). -/
def rightsRank (s : State) (r : Nat) : Nat := ((rightsOf s r).map Rights.rank).getD 0

/-- The control point a request of a holder is checked against (R95): the named shaft, the unit of the axis record, the shaft of the
trigger record. -/
def checkedPoint (s : State) : Instr → Option ControlPoint
  | .run _ _ n _ | .speed _ _ n _ | .inch _ _ n _ _ => if n < 4 then some (.shaft n) else none
  | .engage _ _ x | .release _ _ x | .amendAxis _ _ x _ | .amendAxisAwait _ _ x _ => (s.axis x).map (fun a => .unit a.unit)
  | .amendTrigger _ _ g _ => (s.trigger g).map (fun t => .shaft t.shaft.val)
  | _ => none

/-- Counts from an angle to a trigger's angle, modulo one repeat (R29). -/
def countsPast (c : Trigger) (before : Angle) : Nat := (c.angle.toNat + (1048576 - before.toNat)) % 1048576

/-- An advance examines a trigger: enabled, with its angle in the window (R107). -/
def examined (adv : Advance) (c : Trigger) : Bool :=
  c.enabled && decide (1 ≤ countsPast c adv.before ∧ (countsPast c adv.before : Int) ≤ adv.delta)

/-- A trigger after its pass (R108). -/
def passedTrigger (c : Trigger) : Trigger :=
  { c with phase := if c.divider ≤ c.phase + 1 then 0 else c.phase + 1, seq := if c.phase = 0 then c.seq + 1 else c.seq }

/-- The STROBE frame of a trigger that fires in an advance (R29, R30, R108). -/
def firedFrame (adv : Advance) (cycle : Count16) (g : Nat) (c : Trigger) : StrobeFrame :=
  { station := c.station, trigger := g, seq := c.seq, delay := min 255 (256 * countsPast c adv.before / adv.delta.toNat),
    rep := if 1048576 ≤ adv.before.toNat + countsPast c adv.before then adv.repAfter else adv.repBefore, cycle }

/-- The STROBE frames an advance offers to a port, for the triggers of a walk in its order (R107, R108). -/
def offeredStrobes (s : State) (adv : Advance) (cycle : Count16) (p : PortId) (walk : List Nat) : List StrobeFrame :=
  walk.filterMap (fun g => (s.trigger g).bind (fun c =>
    if examined adv c && decide (c.phase = 0 ∧ c.port = p) then some (firedFrame adv cycle g c) else none))

/-- A trigger stands once, in the list of its shaft, and the other triggers of every list keep their order (R101). -/
def ListedOnce (g : Nat) (sh : ShaftId) (old new : Vector (List Nat) 4) : Prop :=
  ∀ i : ShaftId, new[i.val].filter (· != g) = old[i.val].filter (· != g) ∧ new[i.val].filter (· == g) = (if i = sh then [g] else [])

/-- A view matches a tile (R119). -/
def Matches (v : View) (g : Nat) (seq : Count16) (ix : Nat) : Prop :=
  v.state = .active ∧ v.trigger = g ∧ v.firstTile ≤ ix ∧ ix ≤ v.lastTile ∧ seq.toNat % 2 ^ v.thin = 0

/-- A view after the raise rule for a tile's sequence (R121). -/
def raisedView (seq : Count16) (v : View) : View :=
  if v.thin ≥ 3 ∨ v.lastThin = some seq then v else { v with thin := v.thin + 1, lastThin := some seq }

/-- The entry of a WATCH just taken (R134). -/
def freshWatch (x : Nat) : Watch := { axis := x, pending := true, lastTrim := none, lastLag := none }

/-- A console's marks are as R142 asks: high 1 to 32, low 0 to 31 and below the high. -/
def MarksFit (high low : Nat) : Prop := 1 ≤ high ∧ high ≤ 32 ∧ low ≤ 31 ∧ low < high

/-- Another console than `k` has the address of port `p` and station `st` (R142, R143). -/
def AddressTaken (s : State) (k : Nat) (p : PortId) (st : Nat) : Prop :=
  ∃ q ∈ s.consoles, q.1 ≠ k ∧ q.2.port = p ∧ q.2.station = st

/-- AMEND CONSOLE fields with none named. -/
def noConsoleFields : ConsoleFields := { port := none, station := none, rights := none, high := none, low := none }

/-- Console `k` is at the top of a grant stack (R91). -/
def Holds (k : Nat) (s : State) : Prop := (∃ q ∈ s.units, q.2.stack.getLast? = some k) ∨ ∃ sh : ShaftId, s.shaftStacks[sh.val].getLast? = some k

/-- What the retirement of console `k` leaves (R97, R98, R129, R144): its record, views and places gone, its entry out of every stack, the
inches and awaited trims it had started without a requester, and the last-served console of every port absent where it was this one. Where it
held a control point GRANTS is set for every requester; otherwise no flag and no other console changes. Everything else stands. -/
def Retired (k : Nat) (s t : State) : Prop :=
  t.console k = none ∧
  (∀ j, j ≠ k → (t.console j).map (fun c => { c with flags := .clear }) = (s.console j).map (fun c => { c with flags := .clear })) ∧
  (∀ v, t.view v = (s.view v).filter (fun w => w.owner != k)) ∧
  (∀ n, t.unit n = (s.unit n).map (fun a => { a with stack := a.stack.filter (· != k) })) ∧
  (∀ sh : ShaftId, t.shaftStacks[sh.val] = s.shaftStacks[sh.val].filter (· != k)) ∧
  (∀ sh : ShaftId, t.shaft sh = { s.shaft sh with
    inch := (s.shaft sh).inch.map (fun i => if i.requester = some k then { i with requester := none } else i) }) ∧
  (∀ x, t.axis x = (s.axis x).map (fun a => { a with
    await := a.await.map (fun w => if w.requester = some k then { w with requester := none } else w) })) ∧
  (∀ p : PortId, k ∉ (t.port p).noticeQ ∧ t.port p = { s.port p with
    replyQ := (s.port p).replyQ.filter (· != .console k)
    noticeQ := (t.port p).noticeQ
    valueQ := (s.port p).valueQ.filter (fun e => e.1 != k)
    lastServed := if (s.port p).lastServed = some k then none else (s.port p).lastServed }) ∧
  (Holds k s → t.line.flags = { s.line.flags with grants := true } ∧ ∀ j, j ≠ k →
    (t.console j).map (·.flags) = (s.console j).map (fun c => { c.flags with grants := true })) ∧
  (¬ Holds k s → t.line.flags = s.line.flags ∧ (∀ j, j ≠ k → t.console j = s.console j) ∧
    ∀ p : PortId, (t.port p).noticeQ = (s.port p).noticeQ.filter (· != k)) ∧
  { t with shafts := s.shafts, axes := s.axes, units := s.units, shaftStacks := s.shaftStacks, views := s.views, consoles := s.consoles, ports := s.ports, line := s.line } = s

/-- The definitions RESTART re-enters: each whose cause is present, but those it holds under INHIBIT and D0 (R84). -/
def reentered (s : State) : List Nat :=
  tblFind (fun d => d.cause && d.src != .catchall && !(d.maskable && s.inhibitPin)) s.defs

/-- The bytes READ REPLY sends after the status (R183): length and body of the reply in the slot, length 0 for an empty slot. -/
def slotBytes (s : State) : List Byte :=
  match s.line.slot with
  | some r => leBytes 2 (replyBytes r).length ++ replyBytes r
  | none => leBytes 2 0

/-- A requester is a console that is PRESENT on a port (R146). -/
def goneFrom (s : State) (p : PortId) (r : Option Nat) : Bool := (r.bind s.console).any (fun c => decide (c.port = p ∧ c.present = true))

/-- The holder of a control point goes with the loss of port `p`: a console that is PRESENT on it stands at the top of a stack. -/
def HolderLost (s : State) (p : PortId) : Prop :=
  (∃ q ∈ s.units, goneFrom s p q.2.stack.getLast? = true) ∨ ∃ sh : ShaftId, goneFrom s p s.shaftStacks[sh.val].getLast? = true

/-- A console after its part in the loss of port `p` (R146, R164): on that port the reply slot is emptied, and where it was PRESENT it is ABSENT with
nothing in flight, an empty segment, not held, its timer stopped and no watch entry pending; on another port it stands. GRANTS is set where
`lost` says that a holder changed. -/
def leftConsole (p : PortId) (lost : Bool) (c : Console) : Console :=
  let b := if c.port = p then { c with slot := none } else c
  let d := if c.port = p ∧ c.present = true then { b with
    present := false, flight := none, slots := [], held := false, holdTimer := none, watches := c.watches.map (fun w => { w with pending := false }) } else b
  { d with flags := { c.flags with grants := c.flags.grants || lost } }

/-- The loss of port `p` up to its third step, from `s` to `w` (R164, R146, R97, R98, R128, R139): the port in its new state with its queues, its stray
slot and the frame in sending gone (that nothing is then in sending is the model's choice, notes/assumptions/32.md); each console as `leftConsole`
says; the views of the consoles that are gone PAUSED and every other view as it was; those consoles out of every grant stack, its other entries in
their order; GRANTS set for every requester, and announced to the PRESENT consoles of other ports, where a holder changed and not otherwise; the inches and
awaited trims they had started without a requester (R11, R41). Everything else stands. -/
def ConsolesLost (p : PortId) (st : PortState) (s w : State) : Prop :=
  ∃ lost : Bool, (lost = true ↔ HolderLost s p) ∧
  (∀ k, w.console k = (s.console k).map (leftConsole p lost)) ∧
  (∀ v, w.view v = (s.view v).map (fun a => if goneFrom s p (some a.owner) then { a with state := .paused } else a)) ∧
  (∀ n, w.unit n = (s.unit n).map (fun a => { a with stack := a.stack.filter (fun k => !goneFrom s p (some k)) })) ∧
  (∀ sh : ShaftId, w.shaftStacks[sh.val] = s.shaftStacks[sh.val].filter (fun k => !goneFrom s p (some k))) ∧
  (∀ sh : ShaftId, w.shaft sh = { s.shaft sh with
    inch := (s.shaft sh).inch.map (fun i => if goneFrom s p i.requester then { i with requester := none } else i) }) ∧
  (∀ x, w.axis x = (s.axis x).map (fun a => { a with
    await := a.await.map (fun q => if goneFrom s p q.requester then { q with requester := none } else q) })) ∧
  w.line = { s.line with flags := { s.line.flags with grants := s.line.flags.grants || lost } } ∧
  w.port p = { s.port p with
    state := st, goodRun := 0, badRun := 0, setpointQ := [], strobeQ := [], replyQ := [], noticeQ := [], stray := none, sending := none
    valueQ := (s.port p).valueQ.filter (fun e => !goneFrom s p (some e.1)) } ∧
  (∀ j, j ≠ p → w.port j = { s.port j with
    valueQ := (s.port j).valueQ.filter (fun e => !goneFrom s p (some e.1))
    noticeQ := (s.port j).noticeQ ++ listIf lost ((tblFind (fun c => decide (c.port = j ∧ c.present = true)) s.consoles).filter
      (fun k => !(s.port j).noticeQ.contains k)) }) ∧
  { w with shafts := s.shafts, axes := s.axes, consoles := s.consoles, views := s.views, units := s.units, shaftStacks := s.shaftStacks, line := s.line, ports := s.ports } = s

/-- What a loss of port `p` leaves where it goes to `st` (R164, R146): the queues, the stray slot and the frame in sending gone (no ABSENT
console of the port having a request in flight, and no console that is not PRESENT on it an entry in its pending queue; that nothing is then in
sending is the model's choice, notes/assumptions/32.md), every console of the port that was PRESENT now ABSENT, and PORTS set. It comes about by the
state `w` that `ConsolesLost` describes, from which the link of a port that has been UP comes present under its definition or, where none
watches it, in the unmatched-source set (R64 to R66), with no other change than a trip event makes and GRANTS as `w` has it. -/
def PortLost (p : PortId) (st : PortState) (s t : State) : Prop :=
  (t.port p).state = st ∧ (t.port p).goodRun = 0 ∧ (t.port p).badRun = 0 ∧ (t.port p).setpointQ = [] ∧ (t.port p).strobeQ = [] ∧
  (t.port p).noticeQ = [] ∧ (t.port p).stray = none ∧ (t.port p).sending = none ∧ t.line.ports = true ∧
  ((∀ k c, s.console k = some c → c.port = p → c.present = false → c.flight = none) → (t.port p).replyQ = []) ∧
  ((∀ e ∈ (s.port p).valueQ, ∃ c, s.console e.1 = some c ∧ c.port = p ∧ c.present = true) → (t.port p).valueQ = []) ∧
  (s.linkSeen[p.val] = true → watcherOf s (.link p.val) = none → s.unmatched.length < 16 → .link p.val ∈ t.unmatched) ∧
  (s.reports = [] → ∃ w v, ConsolesLost p st s w ∧ t = setPorts v ∧ TripFrame w v ∧ v.line.flags.grants = w.line.flags.grants ∧
    (∀ k, (v.console k).map (·.flags.grants) = (w.console k).map (·.flags.grants)) ∧
    (s.linkSeen[p.val] = false → v = w) ∧
    (s.linkSeen[p.val] = true →
      (∀ d df, watcherOf s (.link p.val) = some d → s.defn d = some df → CauseCome w v d df (.link p.val)) ∧
      (watcherOf s (.link p.val) = none → CatchAllOk s → SetJoined (.link p.val) w v))) ∧
  (∀ j, j ≠ p → portRest (t.port j) = portRest (s.port j)) ∧
  { t with shafts := s.shafts, axes := s.axes, defs := s.defs, trips := s.trips, unmatched := s.unmatched, overflow := s.overflow, reports := s.reports, consoles := s.consoles, views := s.views, units := s.units, shaftStacks := s.shaftStacks, line := s.line, ports := s.ports } = s ∧
  ∀ k c, s.console k = some c → c.port = p → c.present = true →
    (∃ d, t.console k = some d ∧ d.present = false ∧ d.slots = [] ∧ d.held = false ∧ d.holdTimer = none ∧ d.flight = none ∧ d.slot = none ∧
      (∀ w ∈ d.watches, w.pending = false)) ∧
    (∀ v w, s.view v = some w → w.owner = k → t.view v = some { w with state := .paused }) ∧
    (∀ cp st', stackOf t cp = some st' → k ∉ st')

/-- A tile of console `k` waits on port `p` (R127). -/
def TileWaits (s : State) (p : PortId) (k : Nat) : Prop :=
  ∃ c, s.console k = some c ∧ c.port = p ∧ c.present = true ∧ c.slots ≠ [] ∧ c.held = false

/-- It is the turn of console `k` on port `p` (R127): the first after the last-served console whose tile waits, with wrap. -/
def TurnOf (s : State) (p : PortId) (k : Nat) : Prop :=
  TileWaits s p k ∧ ∀ j, TileWaits s p j →
    match (s.port p).lastServed with
    | none => k ≤ j
    | some l => (l < k → l < j → k ≤ j) ∧ (k ≤ l → j ≤ l ∧ k ≤ j)

/-- A view after the low-mark test (R122), `seq` the sequence of its trigger's latest firing. -/
def loweredView (seq : Count16) (v : View) : View :=
  if v.thin = 0 ∨ v.lastThin = some seq then v else { v with thin := v.thin - 1, lastThin := some seq }

/-- Record memory and the line computer's place after pin reset, as the tables of the blocks give it (R1, R58, R85, R160, R172, R177). -/
def AfterReset (s : State) : Prop :=
  (∀ i : ShaftId, s.shaft i = { state := .standby, v := 0, vt := 0, frac := 0, angle := 0, rep := 0, cycle := 0, period := 1000, vMax := 0, acc := 256, dn := 256, dq := 1024, inchLimit := 0, demand := .none, tripRate := none, inch := none }) ∧
  s.axes = [] ∧ s.units = [] ∧ s.triggers = [] ∧ s.views = [] ∧ s.consoles = [] ∧ s.trips = [] ∧ s.unmatched = [] ∧ s.overflow = false ∧
  s.defs = [(0, { src := .catchall, scope := .all, category := .quick, maskable := false, held := false, cause := false, presentAxes := [] })] ∧
  (∀ i : ShaftId, s.shaftStacks[i.val] = [] ∧ s.triggerLists[i.val] = []) ∧ (∀ p : PortId, s.linkSeen[p.val] = false) ∧
  (∀ p : PortId, (s.port p).state = .dark ∧ (s.port p).goodRun = 0 ∧ (s.port p).badRun = 0 ∧ (s.port p).grace = 0 ∧ (s.port p).lastServed = none ∧
    (s.port p).setpointQ = [] ∧ (s.port p).strobeQ = [] ∧ (s.port p).replyQ = [] ∧ (s.port p).noticeQ = [] ∧ (s.port p).valueQ = [] ∧ (s.port p).stray = none) ∧
  s.hub = { condition := .normal, holdLimit := 50, watchBand := 16, grace := 4 } ∧
  s.line.flight = none ∧ s.line.slot = none ∧ s.line.writeTaken = false ∧ s.line.ports = false ∧ s.badRecs = []

/-- An item of an unsigned field of `n` bytes (R182). -/
def num (code n v : Nat) : Item := { code, value := leBytes n v }

/-- An item of a signed field of 4 bytes (R182). -/
def sgn (code : Nat) (v : Int) : Item := { code, value := leSigned 4 v }

/-- An item of a set-or-clear field (R182). -/
def flag (code : Nat) (b : Bool) : Item := { code, value := [if b then 0x01 else 0x00] }

/-- An item of a list field: its count, then its elements of one byte (R182). -/
def bytesOf (code : Nat) (l : List Nat) : Item := { code, value := BitVec.ofNat 8 l.length :: l.map (BitVec.ofNat 8) }

/-- An item that is left out where its field is absent (R182). -/
def opt {α : Type} (v : Option α) (f : α → Item) : List Item := match v with
  | some a => [f a]
  | none => []

/-- An id in a fixed layout, FFh where it is absent (R180). -/
def idByte (v : Option Nat) : Byte := match v with
  | some n => BitVec.ofNat 8 n
  | none => 0xFF

/-- A source in 4 bytes (R180). -/
def sourceBytes : Source → List Byte
  | .line n => [0x01, BitVec.ofNat 8 n, 0x00, 0x00]
  | .station p st c => [0x02, BitVec.ofNat 8 p, BitVec.ofNat 8 st, BitVec.ofNat 8 c]
  | .lag x => [0x03, BitVec.ofNat 8 x, 0x00, 0x00]
  | .loss x => [0x04, BitVec.ofNat 8 x, 0x00, 0x00]
  | .link p => [0x05, BitVec.ofNat 8 p, 0x00, 0x00]

/-- A byte of up to four flags, bit 0 first (R179, R182). -/
def flagsByte (b0 b1 b2 b3 : Bool) : Byte :=
  (if b0 then 1 else 0) ||| (if b1 then 2 else 0) ||| (if b2 then 4 else 0) ||| (if b3 then 8 else 0)

/-- Codes of the entry states (R180). -/
def entryCode : EntryState → Nat
  | .raised => 1
  | .acked => 2
  | .cleared => 3

/-- Codes of the demands (R180). -/
def stopCode : Demand → Nat
  | .none => 0
  | .ramp => 1
  | .quick => 2

/-- The record kind and id of an awaited object (R182). -/
def awaitsBytes : Option Awaited → List Byte
  | some (.shaft sh) => [0x03, BitVec.ofNat 8 sh.val]
  | some (.axis x) => [0x01, BitVec.ofNat 8 x]
  | none => [0x00, 0xFF]

/-- The image of a SHAFT as R181 and R182 lay it out. -/
def shaftLayout (a : Shaft) (st : List Nat) : List Item :=
  let state := match a.state with
    | .standby => 0 | .running => 1 | .inching => 2 | .stopping => 3 | .tripStopping => 4 | .tripped => 5
  [num 0x01 2 a.period, num 0x02 4 a.vMax, num 0x03 2 a.acc, num 0x04 2 a.dn, num 0x05 2 a.dq, num 0x06 4 a.inchLimit, num 0x50 1 state,
   sgn 0x51 a.v, sgn 0x52 a.vt, num 0x53 1 a.frac.toNat, num 0x54 4 a.angle.toNat, num 0x55 2 a.rep.toNat, num 0x56 2 a.cycle.toNat,
   num 0x57 1 (stopCode a.demand)] ++
  opt a.tripRate (fun r => num 0x58 1 (if r = .ramp then 1 else 2)) ++ opt a.inch (fun i => num 0x59 1 i.remaining) ++
  opt (a.inch.bind (·.requester)) (num 0x5A 1) ++ opt a.inch (fun i => flag 0x5B i.noted) ++ [bytesOf 0x5C st]

/-- The image of an AXIS as R181 and R182 lay it out. -/
def axisLayout (a : Axis) : List Item :=
  [num 0x10 1 a.shaft.val, num 0x11 1 a.unit, num 0x12 1 a.port.val, num 0x13 1 a.station, num 0x14 1 a.channel, sgn 0x15 a.gearN,
   num 0x16 1 a.shift, num 0x17 4 a.slew, sgn 0x18 a.t, num 0x1A 4 a.lagLimit, num 0x1B 2 a.window, num 0x1C 1 a.lagDef,
   num 0x1D 1 a.lossDef, num 0x60 4 a.rem, num 0x61 4 a.w.toNat, sgn 0x62 a.c, num 0x63 4 a.x.toNat] ++
  opt a.y (fun y => num 0x64 4 y.toNat) ++ opt a.e (sgn 0x65) ++
  [num 0x66 1 a.windowCount, flag 0x67 a.engaged, flag 0x68 a.lagCause, flag 0x69 a.lossCause] ++
  opt a.await (fun w => { code := 0x6A, value := [idByte w.requester, if w.noted then 0x01 else 0x00] })

/-- The image of a DEFINITION as R181 and R182 lay it out. -/
def definitionLayout (s : State) (d : Nat) (a : Definition) : List Item :=
  let place := BitVec.ofNat 8 ((s.trips.takeWhile (fun f => f.defn != d)).length + 1)
  let covers := fun (e : Entry) => flagsByte (e.coverage.contains 0) (e.coverage.contains 1) (e.coverage.contains 2) (e.coverage.contains 3)
  (match a.src with
    | .line n => [num 0x20 1 1, num 0x21 1 n]
    | .station p st c => [num 0x12 1 p, num 0x13 1 st, num 0x20 1 2, num 0x22 1 c]
    | .lag => [num 0x20 1 3]
    | .loss => [num 0x20 1 4]
    | .link p => [num 0x12 1 p, num 0x20 1 5]
    | .catchall => [num 0x20 1 6]) ++
  (match a.scope with
    | .source => [num 0x23 1 0]
    | .unit u => [num 0x23 1 1, num 0x24 1 u]
    | .shaft n => [num 0x23 1 2, num 0x24 1 n]
    | .all => [num 0x23 1 3]) ++
  [num 0x25 1 (match a.category with | .ramp => 1 | .quick => 2 | .halt => 3), flag 0x26 a.maskable, flag 0x70 a.held, flag 0x71 a.cause] ++
  (if a.src = .lag ∨ a.src = .loss then [bytesOf 0x72 a.presentAxes] else []) ++
  opt (entryOf s d) (fun e => { code := 0x73, value := [BitVec.ofNat 8 (entryCode e.state), place, covers e] ++ sourceBytes e.firstSource ++ [idByte e.ackedBy] }) ++
  opt ((entryOf s d).filter (fun _ => decide (a.scope = .source))) (fun e => bytesOf 0x74 e.sourceAxes) ++
  (if d = 0 then [{ code := 0x75, value := BitVec.ofNat 8 s.unmatched.length :: s.unmatched.flatMap sourceBytes }, flag 0x76 s.overflow] else [])

/-- The image of a CONSOLE as R181 and R182 lay it out, `left` the time left on its hold timer. -/
def consoleLayout (c : Console) (left : Nat) : List Item :=
  let rights := match c.rights with
    | .viewer => 1 | .operator => 2 | .setter => 3 | .line => 4
  let entry := fun (w : Watch) => [BitVec.ofNat 8 w.axis, flagsByte w.pending w.lastTrim.isSome w.lastLag.isSome false] ++
    leSigned 4 (w.lastTrim.getD 0) ++ leSigned 4 (w.lastLag.getD 0)
  [num 0x12 1 c.port.val, num 0x13 1 c.station, num 0x38 1 rights, num 0x39 1 c.high, num 0x3A 1 c.low, flag 0x80 c.present,
   { code := 0x81, value := [flagsByte c.flags.trips c.flags.shafts c.flags.grants c.flags.hub] }] ++
  opt c.flight (fun f => { code := 0x82, value := BitVec.ofNat 8 f.kind :: awaitsBytes f.awaited }) ++
  [num 0x83 1 c.slots.length, flag 0x84 c.held] ++ opt c.holdTimer (fun _ => num 0x85 1 left) ++
  [{ code := 0x86, value := BitVec.ofNat 8 c.watches.length :: c.watches.flatMap entry }]

/-- The image of a PORT as R182 lays it out. -/
def portLayout (s : State) (p : PortId) : List Item :=
  let q := s.port p
  let waiting := s.consoles.filter (fun e => decide (e.2.port = p ∧ e.2.present = true ∧ e.2.held = false))
  [num 0x88 1 (match q.state with | .dark => 0 | .aligning => 1 | .up => 2), num 0x89 1 q.goodRun, num 0x8A 1 q.badRun, num 0x8B 1 q.grace] ++
  opt q.lastServed (num 0x8C 1) ++
  [{ code := 0x8D, value := [q.setpointQ.length, q.strobeQ.length, q.replyQ.length, q.noticeQ.length, q.valueQ.length].map (BitVec.ofNat 8) },
   num 0x8E 2 (waiting.map (fun e => e.2.slots.length)).sum, flag 0x8F s.linkSeen[p.val]]

/-- Codes of the refusal reasons (R180). -/
def whyCode : Reason → Byte
  | .busy => 0x01 | .rights => 0x02 | .held => 0x03 | .unheld => 0x04 | .state => 0x05 | .moving => 0x06 | .tripped => 0x07 | .absent => 0x08
  | .inUse => 0x09 | .full => 0x0A | .range => 0x0B | .deep => 0x0C | .duplicate => 0x0D | .far => 0x0E | .failed => 0x0F

/-- Codes of the cut causes (R180). -/
def causeCode : CutCause → Byte
  | .stop => 0x01 | .tripped => 0x02 | .superseded => 0x03 | .released => 0x04 | .restart => 0x05 | .failed => 0x06

/-- The body of a reply as R182 lays it out. -/
def replyLayout (r : Reply) : List Byte :=
  let fields : Result → List Byte := fun f => match f with
    | .plain => []
    | .newId n => [BitVec.ofNat 8 n]
    | .image kind id items =>
      (match kind with
        | .axis => 0x01 | .unit => 0x02 | .shaft => 0x03 | .definition => 0x04 | .trigger => 0x05 | .view => 0x06 | .console => 0x07
        | .port => 0x08 | .hub => 0x09) :: BitVec.ofNat 8 id :: items.flatMap (fun i => BitVec.ofNat 8 i.code :: i.value)
    | .status q =>
      [if q.condition = .failed then 0x01 else 0x00, BitVec.ofNat 8 q.entries, if q.overflow then 0x01 else 0x00] ++
      (match q.firstOut with
        | some e => [BitVec.ofNat 8 e.defn, BitVec.ofNat 8 (entryCode e.state)] ++ sourceBytes e.source ++ [idByte e.ackedBy]
        | none => [0xFF, 0x00, 0x00, 0x00, 0x00, 0x00, 0x00]) ++
      [q.axes, q.units, q.definitions, q.triggers, q.views, q.consoles].map (BitVec.ofNat 8)
  [BitVec.ofNat 8 r.kind, BitVec.ofNat 8 r.tag] ++ match r.body with
    | .done f => 0x00 :: fields f
    | .noted f => 0x01 :: fields f
    | .cut cause residual => 0x02 :: causeCode cause :: leSigned 4 residual
    | .refused why => [0x03, whyCode why]

/-- Kind, station and payload of a frame the hub sends, as R179 lays them out. -/
def frameLayout : OutFrame → Nat × Nat × List Byte
  | .idle => (0x00, 0, [])
  | .setpoint f => (0x01, f.station, [BitVec.ofNat 8 f.shaft.val] ++ leBytes 2 f.cycle.toNat ++ [BitVec.ofNat 8 f.entries.length] ++
      f.entries.flatMap (fun e => [BitVec.ofNat 8 e.channel, flagsByte e.enable e.trimming false false] ++ leBytes 4 e.x.toNat))
  | .strobe f => (0x04, f.station, [BitVec.ofNat 8 f.trigger] ++ leBytes 2 f.seq.toNat ++ leBytes 2 f.rep.toNat ++
      [BitVec.ofNat 8 f.delay] ++ leBytes 2 f.cycle.toNat)
  | .tile st q => (0x05, st, [BitVec.ofNat 8 q.trigger] ++ leBytes 2 q.seq.toNat ++
      [BitVec.ofNat 8 q.index, flagsByte q.last false false false] ++ q.payload)
  | .reply st r => (0x09, st, replyLayout r)
  | .notice st n => (0x0A, st, [flagsByte n.trips n.shafts n.grants n.hub])
  | .value st f => (0x0B, st, [BitVec.ofNat 8 f.axis] ++ leBytes 2 f.cycle.toNat ++ [if f.engaged then 0x01 else 0x00] ++ leSigned 4 f.t ++
      leSigned 4 f.c ++ leSigned 4 (f.e.getD 0) ++ [flagsByte f.e.isSome f.lagCause f.lossCause f.haltCovered, BitVec.ofNat 8 (stopCode f.demand)])

/-- A record that the owning block reads before its own checks of a request (R173, R174); none where it has no such record. -/
def firstRead : Instr → Option Rec
  | .run _ _ n _ | .speed _ _ n _ | .inch _ _ n _ _ => (toShaft n).map .stack
  | .stop _ _ n | .amendShaft _ _ n _ => (toShaft n).map .shaft
  | .enrolAxis _ _ f => some (.unit f.unit)
  | .amendAxis _ _ x _ | .amendAxisAwait _ _ x _ | .engage _ _ x | .release _ _ x | .retireAxis _ _ x => some (.axis x)
  | .enrolDefinition _ _ _ _ _ _ | .amendDefinition _ _ _ _ | .retireDefinition _ _ _ | .acknowledge _ _ _ | .acknowledgeAll _ _
  | .status _ _ | .restart _ _ => some .tripList
  | .enrolUnit _ _ u _ | .amendUnit _ _ u _ | .retireUnit _ _ u => some (.unit u)
  | .grant _ _ cp | .yield _ _ cp => if cpInRange cp then some (stackRec cp) else none
  | .enrolTrigger _ _ _ | .amendTrigger _ _ _ _ | .retireTrigger _ _ _ => some (.triggerList 0)
  | .enrolView _ _ f => some (.trigger f.trigger)
  | .amendView _ _ v _ | .retireView _ _ v => some (.view v)
  | .retireConsole _ _ _ => some (.stack 0)
  | .read _ _ kind id => match kind with
    | .axis => some (.axis id) | .unit => some (.unit id) | .shaft => (toShaft id).map .shaft | .definition => some (.definition id)
    | .trigger => some (.trigger id) | .view => some (.view id) | .console => some (.console id) | .hub => some .hub | .port => none
  | .amendHub _ _ _ => some .hub
  | _ => none

/-- The only reply that requester `k` awaits is that of the inch of shaft `sh`. -/
def AwaitsInch (s : State) (k : Nat) (sh : ShaftId) (i : Inch) : Prop :=
  (s.shaft sh).inch = some i ∧ i.requester = some k ∧ (∀ j, j ≠ sh → ∀ i', (s.shaft j).inch = some i' → i'.requester ≠ some k) ∧
  ∀ q ∈ s.axes, ∀ w, q.2.await = some w → w.requester ≠ some k

/-- The only reply that requester `k` awaits is that of the trim of axis `x`. -/
def AwaitsTrim (s : State) (k x : Nat) (a : Axis) : Prop :=
  s.axis x = some a ∧ (∃ w, a.await = some w ∧ w.requester = some k) ∧ (∀ j i, (s.shaft j).inch = some i → i.requester ≠ some k) ∧
  ∀ q ∈ s.axes, q.1 ≠ x → ∀ w, q.2.await = some w → w.requester ≠ some k

/-- What the entry to FAILED leaves of `s` in `t` (R175): the condition, STOPCHAIN open, HUB for every requester, each shaft TRIPPED at rest
without its inch, each ENGAGED axis RELEASED, the cut replies; what the trip unit makes of the lag causes that the releases drop (notes/assumptions/11.md)
is left open where one was present. -/
def FailedEntry (s t : State) : Prop :=
  FailedOk t ∧ t.stopchainOpen = true ∧ t.hub = { s.hub with condition := .failed } ∧ t.line.flags.hub = true ∧
  (∀ k c, s.console k = some c → ∃ d, t.console k = some d ∧ d.flags.hub = true) ∧
  (∀ sh, t.shaft sh = { s.shaft sh with
    state := .tripped, v := 0, vt := 0, tripRate := none, inch := none, demand := (t.shaft sh).demand }) ∧
  (∀ x a, s.axis x = some a → t.axis x = some (releasedAxis a)) ∧
  (∀ k f sh i, flightOf s k = some f → AwaitsInch s k sh i →
    slotOf t k = some { kind := f.kind, tag := f.tag, body := .cut .tripped i.remaining }) ∧
  (∀ k f x a, flightOf s k = some f → AwaitsTrim s k x a → a.engaged = true →
    slotOf t k = some { kind := f.kind, tag := f.tag, body := .cut .failed (a.t - a.c) }) ∧
  ((∀ q ∈ s.axes, q.2.lagCause = false) → t.trips = s.trips ∧ t.defs = s.defs ∧ t.unmatched = s.unmatched) ∧
  { t with hub := s.hub, shafts := s.shafts, axes := s.axes, defs := s.defs, trips := s.trips, unmatched := s.unmatched, reports := s.reports, consoles := s.consoles, line := s.line, ports := s.ports } = s ∧
  PartyFrame s t ∧ ∀ p, portRest (t.port p) = portRest (s.port p)

/-- The commands whose event a pin shows even while RESET is asserted, and RESET itself. -/
def pinEvent : Instr → Bool
  | .tripLineChange _ _ | .inhibitAsserted | .inhibitReleased | .light _ | .lossOfLight _ | .resetAsserted | .resetReleased => true
  | _ => false

end Sys2Proof.Machine

open Sys2Proof Sys2Proof.Machine

/-! ### The queue, and the taking of requests (R147, R174) -/

/-- A step runs the command at the front of the queue with the queue's rest; exec always answers a next state and leaves the queue as it
was; an empty queue idles (the row's own form of a block's step; notes/assumptions/7.md). -/
def Obligations.StepRunsFront : Prop :=
  (∀ (c : Instr) (rest : List Instr) (s : State), step { s with pending := c :: rest } = exec c { s with pending := rest }) ∧
  (∀ (c : Instr) (s : State), ∃ t, exec c s = .next t ∧ t.pending = s.pending) ∧
  ∀ s : State, s.pending = [] → step s = .next s

/-- Steps 1 and 5 of R147 for every request: a station that is no enrolled console is refused RIGHTS through the stray slot of its
port, and a requester whose rights are below those R152 asks is refused RIGHTS; nothing else changes. -/
def Obligations.SenderRefused : Prop :=
  (∀ (i : Instr) (p : PortId) (st : Nat) (s : State), senderOf i = some (.console p st) → s.resetPin = false →
    (s.failed = true ∨ s.badRecs = []) → st < 16 → (s.port p).state = .up → consoleAt s p st = none →
    exec i s = .next (placeStray p st (requestCode i) (requestTag i) (arrived (.console p st) s))) ∧
  ∀ (i : Instr) (o : Origin) (r : Nat) (has : Rights) (s : State), senderOf i = some o → Quiet s → SendsAs o r s →
    flightOf s r = none → fieldsFit i = true → rightsOf s r = some has → Rights.rank has < Rights.rank (leastRights i) →
    exec i s = .next (answer r (requestCode i) (requestTag i) (.refused .rights)
      (taken o r (requestCode i) (requestTag i) s))

/-- Steps 2 and 3 of R147 for every request: BUSY while the sender has one in flight, and FAILED for every request but STATUS while
the hub is FAILED; nothing else changes. That RETIRE CONSOLE is among these, though R99 speaks of a retirement going on, is the model's choice
(notes/assumptions/35.md). -/
def Obligations.BusyOrFailedRefused : Prop :=
  (∀ (i : Instr) (o : Origin) (r : Nat) (f : Flight) (s : State), senderOf i = some o → s.resetPin = false →
    (s.failed = true ∨ s.badRecs = []) → SendsAs o r s → flightOf s r = some f →
    exec i s = .next (placeBusy r (requestCode i) (requestTag i) (arrived o s))) ∧
  ∀ (i : Instr) (o : Origin) (r : Nat) (s : State), senderOf i = some o → s.resetPin = false → s.failed = true →
    SendsAs o r s → flightOf s r = none → (rightsOf s r).isSome = true → requestCode i ≠ 0x38 →
    exec i s = .next (answer r (requestCode i) (requestTag i) (.refused .failed)
      (taken o r (requestCode i) (requestTag i) s))

/-- Step 4 of R147: a request whose fields do not fit its kind is refused RANGE with its kind and tag, whether it comes as one of the
request commands or as a body that no request command spells, in a REQUEST frame or through WRITE REQUEST (which bodies these are: notes/assumptions/14.md; what
the two rows stand for: 12.md, 13.md). -/
def Obligations.MisfitRefused : Prop :=
  (∀ (i : Instr) (o : Origin) (r : Nat) (s : State), senderOf i = some o → Quiet s → SendsAs o r s → flightOf s r = none →
    (rightsOf s r).isSome = true → fieldsFit i = false →
    exec i s = .next (answer r (requestCode i) (requestTag i) (.refused .range)
      (taken o r (requestCode i) (requestTag i) s))) ∧
  (∀ (p : PortId) (st r : Nat) (kind tag : Byte) (rest : List Byte) (s : State), Quiet s → SendsAs (.console p st) r s →
    flightOf s r = none → (rightsOf s r).isSome = true →
    decodeRequest (.console p st) (kind :: tag :: rest) = none →
    exec (.unknownKindFrame p st 0x08 (kind :: tag :: rest)) s =
      .next (answer r kind.toNat tag.toNat (.refused .range) (taken (.console p st) r kind.toNat tag.toNat s))) ∧
  ∀ (kind tag l0 l1 : Byte) (rest : List Byte) (s : State), Quiet s → s.line.flight = none → s.line.slot = none →
    rest.length + 2 = ofLe [l0, l1] → decodeRequest .line (kind :: tag :: rest) = none →
    exec (.writeRequest (l0 :: l1 :: kind :: tag :: rest)) s = .next { s with
      spiOut := statusByte s :: List.replicate (rest.length + 4) 0
      line := { flags := .clear, ports := false, writeTaken := true,
                flight := some { kind := kind.toNat, tag := tag.toNat, awaited := none },
                slot := some { kind := kind.toNat, tag := tag.toNat, body := .refused .range } } }

/-- Bad words and the entry to FAILED (R174, R175; bad words kept per record, which reads are made, and the reply after the entry:
notes/assumptions/5.md, 11.md), for the reads named here. The entry leaves what `FailedEntry` says. A request that meets a bad word in the hub record,
or in the record `firstRead` names, or READ in a bad PORT record, changes nothing: the hub enters FAILED and the request is refused FAILED; and so does every
request under which the hub fails, whichever record was bad, where the reception of its frame met none. A cycle event with a bad shaft
record performs no stage; one with a bad axis record keeps the steps of the axes before it and forms no SETPOINT frame and no pass; one with a bad trigger or list
of its shaft, the travel being 1 or more, keeps stages 1 to 4 and takes no pass. A frame with a bad
port record or console address, or whose sender's console record is bad; FEEDBACK with a bad axis record; RAISE and DROP with a bad trip list; HOLD and GO with a
bad segment; TILE with a bad trigger or view record; light and bad frames with a bad port record; a port loss with a bad console record; a hold timer's
expiry with a bad segment; a change of a trip line or of INHIBIT with a bad trip list;
and a halt order to a bad shaft record: each leaves what was done before the read. An arbiter that finds a bad port record or hub record, or
the axis of a VALUE entry bad, sends nothing for it and chooses again. A crossing that is counted is counted by the inch's own direction (the model's choice,
notes/assumptions/9.md). -/
def Obligations.BadWordRefused : Prop :=
  (∀ s : State, TablesOk s → FailedEntry s (enterFailed s)) ∧
  (∀ (i : Instr) (o : Origin) (r : Nat) (s : State), senderOf i = some o → s.resetPin = false → s.failed = false →
    s.badRecs = [.hub] → SendsAs o r s → flightOf s r = none → (rightsOf s r).isSome = true →
    exec i s = .next (answer r (requestCode i) (requestTag i) (.refused .failed)
      (enterFailed (taken o r (requestCode i) (requestTag i) s)))) ∧
  (∀ (i : Instr) (o : Origin) (r : Nat) (has : Rights) (b : Rec) (s : State), senderOf i = some o → s.resetPin = false →
    s.failed = false → firstRead i = some b → s.badRecs = [b] → b ≠ .console r → SendsAs o r s → flightOf s r = none →
    fieldsFit i = true → rightsOf s r = some has → Rights.rank (leastRights i) ≤ Rights.rank has →
    exec i s = .next (answer r (requestCode i) (requestTag i) (.refused .failed)
      (enterFailed (taken o r (requestCode i) (requestTag i) s)))) ∧
  (∀ (tag : Nat) (p : PortId) (s : State), s.resetPin = false → s.failed = false → s.badRecs = [.port p] → s.line.flight = none →
    exec (.read .line tag .port p.val) s = .next (answer 0 0x01 tag (.refused .failed) (enterFailed (taken .line 0 0x01 tag s)))) ∧
  (∀ (i : Instr) (o : Origin) (r : Nat) (s t : State), senderOf i = some o → s.resetPin = false → s.failed = false →
    SendsAs o r s → flightOf s r = none →
    (∀ p st, o = .console p st → ∀ b ∈ s.badRecs, b ≠ .port p ∧ b ≠ .console r ∧ b ≠ .watchSet r ∧ ∀ k, b ≠ .address k) →
    exec i s = .next t → t.failed = true →
    t = answer r (requestCode i) (requestTag i) (.refused .failed) (enterFailed (taken o r (requestCode i) (requestTag i) s))) ∧
  (∀ (sh : ShaftId) (s : State), s.resetPin = false → s.failed = false →
    let a := s.shaft sh
    let timed := { s with timers := s.timers.set sh.val a.period }
    let turn := { advanced { a with v := speedStep a } with cycle := a.cycle + 1 }
    let delta := (masterAdvance { a with v := speedStep a }).delta
    (s.badRecs = [.shaft sh] → exec (.cycleEvent sh) s = .next (enterFailed timed)) ∧
    (∀ b, (b = .triggerList sh ∨ ∃ g ∈ s.triggerLists[sh.val], b = .trigger g) → s.badRecs = [b] → TablesOk s → SpeedsOk s → AxesOk s → 1 ≤ delta →
      ∃ u, exec (.cycleEvent sh) s = .next (enterFailed u) ∧ u.failed = false ∧ u.timers = timed.timers ∧
        u.shaft sh = countedInch (crossing { a with v := speedStep a }) turn ∧
        (∀ y c, s.axis y = some c → u.axis y = some (if c.shaft = sh then steppedAxis delta c else c)) ∧
        u.triggers = s.triggers ∧ ∀ p, (u.port p).strobeQ = (s.port p).strobeQ ∧
          (u.port p).setpointQ = (if (s.port p).state = .up then
            superseded (framesOfEvent sh (a.cycle + 1) u.axes p) (s.port p).setpointQ else (s.port p).setpointQ)) ∧
    ∀ x b, s.axis x = some b → b.shaft = sh → s.badRecs = [.axis x] → TablesOk s → SpeedsOk s → AxesOk s →
      ∃ u, exec (.cycleEvent sh) s = .next (enterFailed u) ∧ u.failed = false ∧ u.timers = timed.timers ∧
        u.shaft sh = countedInch (crossing { a with v := speedStep a }) turn ∧
        (∀ y c, s.axis y = some c → u.axis y = some (if c.shaft = sh ∧ y < x then steppedAxis delta c else c)) ∧
        u.triggers = s.triggers ∧ ∀ p, (u.port p).setpointQ = (s.port p).setpointQ ∧ (u.port p).strobeQ = (s.port p).strobeQ) ∧
  (∀ (i : Instr) (p : PortId) (s : State), s.resetPin = false → s.failed = false →
    (framePort i = some p ∨ ∃ st, senderOf i = some (.console p st)) →
    (s.badRecs = [.port p] → exec i s = .next (enterFailed s)) ∧
    ∀ k c, s.console k = some c → (s.port p).state = .up → s.badRecs = [.address k] →
      exec i s = .next (enterFailed (s.setPort p { s.port p with badRun := 0 }))) ∧
  (∀ (p : PortId) (st : Nat) (b : Rec) (s : State), s.resetPin = false → s.failed = false → s.badRecs = [b] → (s.port p).state = .up →
    let u := arrived (.console p st) s
    (∀ i k, consoleAt s p st = some k → b = .console k →
      (senderOf i = some (.console p st) ∨ i = .idle p st ∨ i = .hold p st ∨ i = .go p st ∨ (∃ es, i = .feedback p st es) ∨
        (∃ code, i = .raiseTrip p st code ∨ i = .dropTrip p st code) ∨ ∃ g seq ix last image, i = .tile p st g seq ix last image) →
      exec i s = .next (enterFailed (s.setPort p { s.port p with badRun := 0 }))) ∧
    (st < 16 →
      (∀ x es, b = .axis x → (s.axis x).isSome = true → exec (.feedback p st es) s = .next (enterFailed u)) ∧
      (∀ code, b = .tripList → exec (.raiseTrip p st code) s = .next (enterFailed u) ∧ exec (.dropTrip p st code) s = .next (enterFailed u)) ∧
      (∀ k, consoleAt s p st = some k → b = .segment k →
        exec (.hold p st) s = .next (enterFailed u) ∧ exec (.go p st) s = .next (enterFailed u)) ∧
      ∀ g seq ix last image,
        (∀ h, b = .trigger h → (s.trigger h).isSome = true → exec (.tile p st g seq ix last image) s = .next (enterFailed u)) ∧
        ∀ v, b = .view v → (s.view v).isSome = true → (∃ q ∈ s.triggers, q.2.port = p ∧ q.2.station = st) → image.length = 1024 →
          (s.trigger g).isSome = true → exec (.tile p st g seq ix last image) s = .next (enterFailed u))) ∧
  (∀ (p : PortId) (s : State), s.resetPin = false → s.failed = false →
    let lit := { s with lightPins := s.lightPins.set p.val true }
    let unlit := { s with lightPins := s.lightPins.set p.val false }
    (s.badRecs = [.port p] → exec (.light p) s = .next (enterFailed lit) ∧ exec (.lossOfLight p) s = .next (enterFailed unlit) ∧
      exec (.badFrame p) s = .next (enterFailed s)) ∧
    ∀ k, (s.console k).isSome = true → s.badRecs = [.console k] → (s.port p).state = .up →
      exec (.lossOfLight p) s = .next (enterFailed (unlit.setPort p { s.port p with state := .dark, goodRun := 0, badRun := 0 })) ∧
      (7 ≤ (s.port p).badRun →
        exec (.badFrame p) s = .next (enterFailed (s.setPort p { s.port p with state := .aligning, goodRun := 0, badRun := 0 })))) ∧
  (∀ (k : Nat) (c : Console) (s : State), s.resetPin = false → s.failed = false → s.console k = some c → c.holdTimer ≠ none →
    s.badRecs = [.segment k] → exec (.holdTimerExpiry k) s = .next (enterFailed s)) ∧
  (∀ s : State, s.resetPin = false → s.failed = false → s.badRecs = [.tripList] →
    (∀ (n : Fin 8) (b : Bool), s.tripPins[n.val] ≠ b →
      exec (.tripLineChange n b) s = .next (enterFailed { s with tripPins := s.tripPins.set n.val b })) ∧
    (s.inhibitPin = false → exec .inhibitAsserted s = .next (enterFailed { s with inhibitPin := true })) ∧
    (s.inhibitPin = true → exec .inhibitReleased s = .next (enterFailed { s with inhibitPin := false }))) ∧
  (∀ (i : Instr) (s s0 : State) (src : Source) (d : Nat) (df : Definition) (sh : ShaftId), s.resetPin = false → s.failed = false →
    s.badRecs = [.shaft sh] → BringsPresent i s src s0 → watcherOf s src = some d → s.defn d = some df → entryOf s d = none →
    (df.maskable = false ∨ s.inhibitPin = false) → df.category = .halt → df.scope = .shaft sh.val →
    ∃ u, exec i s = .next (enterFailed u) ∧ u.trips = s.trips ++ [raisedEntry d [sh] [] src] ∧ u.shafts = s.shafts ∧ u.axes = s.axes) ∧
  ∀ (p : PortId) (b : Rec) (s : State), TablesOk s → s.resetPin = false → s.failed = false → s.badRecs = [b] →
    (b = .port p ∨ b = .hub ∨ ∃ k x, b = .axis x ∧ (s.port p).state = .up ∧ (s.port p).setpointQ = [] ∧ (s.port p).strobeQ = [] ∧
      (s.port p).replyQ = [] ∧ (s.port p).noticeQ = [] ∧ (s.port p).valueQ.head? = some (k, x) ∧ ∀ j, ¬ TileWaits s p j) →
    exec (.transmitterFree p) s = exec (.transmitterFree p) (enterFailed s)

/-! ### Shafts and setpoints (chapters 1 and 2) -/

/-- R4 on the shaft record: the target and the rate of the state, and how far V moves in each case. -/
def Obligations.SpeedStepRule : Prop :=
  ∀ a : Shaft,
    let target := if a.state = .running ∨ a.state = .inching then a.vt else 0
    let dec := if a.state = .tripStopping ∧ a.tripRate = some .quick then a.dq else a.dn
    ((a.state = .standby ∨ a.state = .tripped) → speedStep a = a.v) ∧
    (a.state ≠ .standby → a.state ≠ .tripped →
      (0 < a.v → target ≤ 0 → speedStep a = max (a.v - dec) 0) ∧
      (a.v < 0 → 0 ≤ target → speedStep a = min (a.v + dec) 0) ∧
      (0 < target → target < a.v → speedStep a = max (a.v - dec) target) ∧
      (target < 0 → a.v < target → speedStep a = min (a.v + dec) target) ∧
      (0 ≤ a.v → a.v ≤ target → speedStep a = min (a.v + a.acc) target) ∧
      (a.v ≤ 0 → target ≤ a.v → speedStep a = max (a.v - a.acc) target))

/-- R20 and R21: travel, fraction, angle and repeat counter of one master advance, the bound on the travel, and that no part of the
speed is lost over any run of cycle events. -/
def Obligations.MasterAdvanceLaw : Prop :=
  (∀ a : Shaft, a.v.natAbs ≤ a.vMax → a.vMax ≤ 8388607 →
    let delta := ((a.frac.toNat : Int) + a.v) / 256
    let sum := (a.angle.toNat : Int) + delta
    (masterAdvance a).delta = delta ∧ ((advanced a).frac.toNat : Int) = ((a.frac.toNat : Int) + a.v) % 256 ∧
    delta.natAbs ≤ a.vMax / 256 + 1 ∧ -32768 ≤ delta ∧ delta ≤ 32768 ∧
    (a.v = 0 → delta = 0 ∧ (advanced a).frac = a.frac) ∧
    ((advanced a).angle.toNat : Int) = sum % 1048576 ∧
    (advanced a).rep = (if 1048576 ≤ sum then a.rep + 1 else if sum < 0 then a.rep - 1 else a.rep)) ∧
  ∀ (a : Shaft) (vs : List Int), (∀ v ∈ vs, v.natAbs ≤ 8388607) →
    256 * (advanceRun a vs).2 + (((advanceRun a vs).1.frac.toNat : Int) - a.frac.toNat) = vs.sum

/-- CYCLE_EVENT as the shafts see it, whatever axes and triggers follow: the timer takes its next interval at the period in the
record, the shaft takes the speed step, the master advance, the inch count, the cycle number and the end of its stop in that order,
no other shaft changes, and a change of its state sets SHAFTS. The trip unit then takes the reports of the loss causes that have risen
(R53); where none has risen nothing more happens. It is the same while the hub is FAILED (R32, R176): with the shafts TRIPPED at V = 0 the travel is 0
and the cycle number alone goes up. That an inch counts crossings by a direction of its own is the model's choice (notes/assumptions/9.md). -/
def Obligations.CycleEventTurnsShaft : Prop :=
  ∀ (sh : ShaftId) (s : State), Steady s → TablesOk s →
    let a := s.shaft sh
    let turn := { advanced { a with v := speedStep a } with cycle := a.cycle + 1 }
    let b := endedStop (countedInch (crossing { a with v := speedStep a }) turn)
    ∃ u, exec (.cycleEvent sh) s = .next (drainReports u).state ∧ u.shafts = s.shafts.set sh.val b ∧
      u.timers = s.timers.set sh.val a.period ∧ (b.state ≠ a.state → u.line.flags.shafts = true) ∧ u.failed = s.failed ∧
      (FailedOk s → (masterAdvance { a with v := speedStep a }).delta = 0 ∧ b = { a with cycle := a.cycle + 1 }) ∧
      ((∀ q ∈ s.axes, q.2.shaft = sh → lossRises q.2 = false) → (drainReports u).state = u)

/-- R5: stage 6 where V is 0. The stop of STOPPING ends in STANDBY with Vt 0, and an inch that was closing has its reply sent and its
fields made absent; the stop of TRIP_STOPPING ends in TRIPPED without a trip rate; each change sets SHAFTS. In every other state,
and where V is not 0, stage 6 changes nothing. -/
def Obligations.StopEndsAtRest : Prop :=
  ∀ (sh : ShaftId) (s : State), s.badRecs = [] →
    let a := s.shaft sh
    let standing := setFlag .shafts (s.setShaft sh { a with state := .standby, vt := 0 })
    (a.v = 0 → a.state = .stopping → a.inch = none → stopEnd sh s = .on standing) ∧
    (a.v = 0 → a.state = .stopping → ∀ i, a.inch = some i →
      stopEnd sh s = .on ((replyTo i.requester (plainReply i.noted) standing).setShaft sh
        { a with state := .standby, vt := 0, inch := none })) ∧
    (a.v = 0 → a.state = .tripStopping →
      stopEnd sh s = .on (setFlag .shafts (s.setShaft sh { a with state := .tripped, tripRate := none }))) ∧
    ((a.v ≠ 0 ∨ (a.state ≠ .stopping ∧ a.state ≠ .tripStopping)) → stopEnd sh s = .on s)

/-- The gear law of R22: over any run of cycle events, engaged or released, 2^S times the geared travel plus the remainder at the end
is N times the master travel plus the remainder at the start, the geared travel is what W has moved, and the remainder stays below
2^S. -/
def Obligations.GearLaw : Prop :=
  ∀ (a : Axis) (ds : List Int), -8388608 ≤ a.gearN → a.gearN ≤ 8388607 → a.shift ≤ 24 → a.rem < 2 ^ a.shift →
    (∀ d ∈ ds, -32768 ≤ d ∧ d ≤ 32768) →
    (2 : Int) ^ a.shift * (gearRun a ds).2 + (gearRun a ds).1.rem = a.gearN * ds.sum + a.rem ∧
    (gearRun a ds).1.w = a.w + BitVec.ofInt 32 (gearRun a ds).2 ∧ (gearRun a ds).1.rem < 2 ^ a.shift

/-- CYCLE_EVENT as the axes see it: every axis of the shaft takes its gear step; an ENGAGED one its trim step and X' = X + d + t, a
RELEASED one X' = Y or its held X; an awaited trim that has arrived is over, DONE or NOTED in the slot of its requester (R39), a window counts
down and raises the loss cause at 0; the axes of other shafts stand. A PRESENT console's watch entry becomes pending where `stepMarks` says so, at
the tail of its port's pending queue, and no other does (R136). The SETPOINT queue of each UP port takes one frame for each station of the shaft, in place of
a waiting one for the same station and shaft (R54, R55). Beside the shaft, its timer and its axes only triggers, queues, notices, replies and watch marks change. The loss causes that rose
are then reported in ascending axis id (R53); what the trip unit makes of a report is said in SourcePresentTaken. It is the same while the hub is
FAILED (R32, R54, R176), where every entry of the frames carries the enable flag clear and the gears stand. -/
def Obligations.CycleEventStepsAxes : Prop :=
  ∀ (sh : ShaftId) (s : State), Steady s → TablesOk s → SpeedsOk s → AxesOk s →
    let delta := (masterAdvance { s.shaft sh with v := speedStep (s.shaft sh) }).delta
    ∃ u, exec (.cycleEvent sh) s = .next (drainReports u).state ∧
      u.reports = (s.axes.filter (fun q => decide (q.2.shaft = sh) && lossRises q.2)).map (fun q => lossReport q.1 q.2 true) ∧
      (u.reports = [] → (drainReports u).state = u) ∧
      (∀ x a, s.axis x = some a → u.axis x = some (if a.shaft = sh then steppedAxis delta a else a)) ∧
      (∀ x, s.axis x = none → u.axis x = none) ∧
      (FailedOk s → (∀ p, ∀ f ∈ framesOfEvent sh ((s.shaft sh).cycle + 1) u.axes p, ∀ e ∈ f.entries, e.enable = false ∧ e.trimming = false) ∧
        ∀ x a, s.axis x = some a → a.shaft = sh → (steppedAxis delta a).w = a.w ∧ (steppedAxis delta a).rem = a.rem ∧
          (steppedAxis delta a).c = a.c ∧ (steppedAxis delta a).x = a.y.getD a.x) ∧
      (∀ k f x a w, flightOf s k = some f → AwaitsTrim s k x a → a.await = some w → a.shaft = sh → a.engaged = true →
        (steppedAxis delta a).c = a.t → slotOf u k = some { kind := f.kind, tag := f.tag, body := plainReply w.noted }) ∧
      (∀ k c, s.console k = some c → ∃ d, u.console k = some d ∧
        d.watches = c.watches.map (fun w => { w with pending := w.pending || (c.present && stepMarks s sh delta w) })) ∧
      (∀ p : PortId, ∃ l, (u.port p).valueQ = (s.port p).valueQ ++ l ∧ ∀ k x, (k, x) ∈ l ↔ ∃ c, s.console k = some c ∧ c.port = p ∧
        c.present = true ∧ ∃ w ∈ c.watches, w.axis = x ∧ w.pending = false ∧ stepMarks s sh delta w = true) ∧
      { u with shafts := s.shafts, timers := s.timers, axes := s.axes, triggers := s.triggers, reports := s.reports, ports := s.ports, consoles := s.consoles, line := s.line } = s ∧
      PartyFrame s u ∧ ∀ p, { portRest (u.port p) with setpointQ := [], strobeQ := [] } = { portRest (s.port p) with setpointQ := [], strobeQ := [] } ∧
        (u.port p).setpointQ = (if (s.port p).state = .up then
          superseded (framesOfEvent sh ((s.shaft sh).cycle + 1) u.axes p) (s.port p).setpointQ else (s.port p).setpointQ)

/-- RUN and SPEED for every sender that may send them (R6, R7): the refusals of each in their order; RUN enters RUNNING with Vt the speed or
V_max, and an inch that was closing ends CUT SUPERSEDED; SPEED sets Vt the same way, the state stays RUNNING and no notice flag is set.
Nothing else changes. That a shaft number above 3 is refused RANGE is the model's choice (notes/assumptions/16.md), and that SPEED in STANDBY is refused STATE
even where V_max is 0, as after pin reset (notes/assumptions/33.md). -/
def Obligations.RunAndSpeedTables : Prop :=
  (∀ (o : Origin) (r tag n : Nat) (v : Int) (s : State), Ready o r .operator s →
    let u := taken o r 0x10 tag s
    let out := fun b t => exec (.run o tag n v) s = .next (answer r 0x10 tag b t)
    (4 ≤ n → out (.refused .range) u) ∧
    ∀ sh : ShaftId, n = sh.val → holderCheck s r (.shaft n) = none →
      let a := s.shaft sh
      ((a.state = .tripStopping ∨ a.state = .tripped) → out (.refused .tripped) u) ∧
      ((a.state = .running ∨ a.state = .inching) → out (.refused .state) u) ∧
      ((a.state = .standby ∨ a.state = .stopping) → (v ≤ 0 ∨ a.vMax = 0) → out (.refused .range) u) ∧
      ((a.state = .standby ∨ a.state = .stopping) → 0 < v → 0 < a.vMax →
        out (plainReply (decide (a.vMax < v))) (setFlag .shafts ((inchCutReply .superseded a u).setShaft sh
          { a with state := .running, vt := min v a.vMax, inch := none })))) ∧
  ∀ (o : Origin) (r tag n : Nat) (v : Int) (s : State), Ready o r .operator s →
    let u := taken o r 0x11 tag s
    let out := fun b t => exec (.speed o tag n v) s = .next (answer r 0x11 tag b t)
    (4 ≤ n → out (.refused .range) u) ∧
    ∀ sh : ShaftId, n = sh.val → holderCheck s r (.shaft n) = none →
      let a := s.shaft sh
      ((a.state = .tripStopping ∨ a.state = .tripped) → out (.refused .tripped) u) ∧
      ((a.state = .standby ∨ a.state = .inching ∨ a.state = .stopping) → out (.refused .state) u) ∧
      (a.state = .running → (v ≤ 0 ∨ a.vMax = 0) → out (.refused .range) u) ∧
      (a.state = .running → 0 < v → 0 < a.vMax →
        out (plainReply (decide (a.vMax < v))) (u.setShaft sh { a with vt := min v a.vMax }))

/-- STOP for every requester, holder or not (R8): RUNNING enters STOPPING with Vt 0; INCHING does too and its inch ends CUT STOP; in the
other states the record is left as it stands. It is answered DONE, FAILED while the hub is FAILED, and RANGE for a number above 3, which is
the model's choice (notes/assumptions/16.md). -/
def Obligations.StopTable : Prop :=
  (∀ (o : Origin) (r tag n : Nat) (s : State), s.resetPin = false → s.failed = true → SendsAs o r s → flightOf s r = none →
    (rightsOf s r).isSome = true →
    exec (.stop o tag n) s = .next (answer r 0x12 tag (.refused .failed) (taken o r 0x12 tag s))) ∧
  ∀ (o : Origin) (r tag n : Nat) (s : State), Ready o r .viewer s →
    let u := taken o r 0x12 tag s
    let out := fun b t => exec (.stop o tag n) s = .next (answer r 0x12 tag b t)
    (4 ≤ n → out (.refused .range) u) ∧
    ∀ sh : ShaftId, n = sh.val →
      let a := s.shaft sh
      (a.state = .running →
        out (.done .plain) (setFlag .shafts (u.setShaft sh { a with state := .stopping, vt := 0 }))) ∧
      (a.state = .inching →
        out (.done .plain) ((inchCutReply .stop a (setFlag .shafts (u.setShaft sh { a with state := .stopping, vt := 0 }))).setShaft sh
          { a with state := .stopping, vt := 0, inch := none })) ∧
      ((a.state = .standby ∨ a.state = .stopping ∨ a.state = .tripStopping ∨ a.state = .tripped) → out (.done .plain) u)

/-- INCH for every sender that may send it (R9): the refusals in their order, and the inch taken, its speed held within the inch limit,
with the request held in flight on its shaft and no reply placed. That a shaft number above 3 is refused RANGE is the model's choice
(notes/assumptions/16.md), and so is that the inch keeps a direction of its own (notes/assumptions/9.md). -/
def Obligations.InchTable : Prop :=
  ∀ (o : Origin) (r tag n : Nat) (v : Int) (k : Nat) (s : State), Ready o r .operator s →
    let u := taken o r 0x13 tag s
    let out := fun b t => exec (.inch o tag n v k) s = .next (answer r 0x13 tag b t)
    (4 ≤ n → out (.refused .range) u) ∧
    ∀ sh : ShaftId, n = sh.val → holderCheck s r (.shaft n) = none →
      let a := s.shaft sh
      ((a.state = .tripStopping ∨ a.state = .tripped) → out (.refused .tripped) u) ∧
      ((a.state = .running ∨ a.state = .inching ∨ a.state = .stopping) → out (.refused .state) u) ∧
      (a.state = .standby → (k = 0 ∨ 255 < k ∨ v = 0 ∨ a.inchLimit = 0) → out (.refused .range) u) ∧
      (a.state = .standby → 0 < k → k ≤ 255 → v ≠ 0 → 0 < a.inchLimit →
        exec (.inch o tag n v k) s = .next (setFlight r (some { kind := 0x13, tag, awaited := some (.shaft sh) })
          (setFlag .shafts (u.setShaft sh
            { a with
              state := .inching
              vt := if a.inchLimit < v.natAbs then (if 0 < v then (a.inchLimit : Int) else -(a.inchLimit : Int)) else v
              inch := some { remaining := k, requester := some r, noted := decide (a.inchLimit < v.natAbs), forward := decide (0 < v) } }))))

/-- AMEND SHAFT from the line computer (R12, R13): refused whole with the reason of the first refused field, or taken whole; and what
each field by itself is refused for, changes and reports, where `gears` holds N and S of the axes of the shaft (Dn and Dq by
notes/assumptions/17.md, a number above 3 by notes/assumptions/16.md). -/
def Obligations.AmendShaftWhole : Prop :=
  (∀ (tag n : Nat) (f : ShaftFields) (s : State), Ready .line 0 .line s → fieldsFit (.amendShaft .line tag n f) = true →
    let u := taken .line 0 0x03 tag s
    let out := fun b t => exec (.amendShaft .line tag n f) s = .next (answer 0 0x03 tag b t)
    (4 ≤ n → out (.refused .range) u) ∧
    ∀ sh : ShaftId, n = sh.val →
      (∀ why, editShaft (gearsOf s sh) f (s.shaft sh) = .error why → out (.refused why) u) ∧
      ∀ a noted, editShaft (gearsOf s sh) f (s.shaft sh) = .ok (a, noted) → out (plainReply noted) (u.setShaft sh a)) ∧
  ∀ (gears : List (Int × Nat)) (a : Shaft) (v : Nat),
    let none6 : ShaftFields := { period := none, vMax := none, acc := none, dn := none, dq := none, inchLimit := none }
    editShaft gears { none6 with period := some v } a =
      (if v ≠ 250 ∧ v ≠ 500 ∧ v ≠ 1000 ∧ v ≠ 2000 then .error .range else if a.state ≠ .standby then .error .state
       else .ok ({ a with period := v }, false)) ∧
    editShaft gears { none6 with vMax := some v } a =
      (if 8388607 < v then .error .range else if v < a.v.natAbs then .error .moving
       else if ∃ g ∈ gears, 2 ^ (g.2 + 23) < g.1.natAbs * (v / 256 + 1) then .error .range
       else .ok ({ a with
              vMax := v, vt := max (-(v : Int)) (min (v : Int) a.vt), inchLimit := min a.inchLimit v },
            decide (v < a.vt.natAbs ∨ v < a.inchLimit))) ∧
    editShaft gears { none6 with acc := some v } a =
      (if v = 0 ∨ 65535 < v then .error .range else .ok ({ a with acc := v }, false)) ∧
    editShaft gears { none6 with dn := some v } a =
      (if v = 0 ∨ 65535 < v then .error .range else .ok ({ a with dn := v, dq := max a.dq v }, decide (a.dq < v))) ∧
    editShaft gears { none6 with dq := some v } a =
      (if v = 0 ∨ 65535 < v then .error .range else .ok ({ a with dq := max v a.dn }, decide (v < a.dn))) ∧
    editShaft gears { none6 with inchLimit := some v } a =
      (if 8388607 < v then .error .range
       else .ok ({ a with
              inchLimit := min v a.vMax
              vt := if a.state = .inching then max (-(min v a.vMax : Int)) (min (min v a.vMax : Int) a.vt) else a.vt },
            decide (a.vMax < v ∨ (a.state = .inching ∧ min v a.vMax < a.vt.natAbs))))

/-! ### Axes and trip definitions (chapters 3 and 4) -/

/-- ENROL AXIS from the line computer (R33, R34, R35): FULL with 64 axes enrolled; the refusals of R34 that follow it, in their order; and where every check passes, the record with
the lowest free id, RELEASED at X = W = C = T = r = 0 without Y and E, its window count at the window, L held within 1 to 65,535, and
the reply with the id, NOTED where L was clamped. Nothing else changes. -/
def Obligations.EnrolAxisTaken : Prop :=
  ∀ (tag : Nat) (f : AxisEnrol) (s : State), Ready .line 0 .line s →
    let u := taken .line 0 0x02 tag s
    let out := fun b t => exec (.enrolAxis .line tag f) s = .next (answer 0 0x02 tag b t)
    ((∀ y, y < 64 → (s.axis y).isSome = true) → out (.refused .full) u) ∧
    (∀ x, NextAxis s x →
      let outside := 3 < f.shaft ∨ 15 < f.unit ∨ 5 < f.port ∨ 15 < f.station ∨ 1 < f.channel ∨ f.gearN < -8388608 ∨ 8388607 < f.gearN ∨
        24 < f.shift ∨ 8388607 < f.lagLimit ∨ 255 < f.window
      (outside → out (.refused .range) u) ∧
      (¬ outside → (s.unit f.unit = none ∨ s.defn f.lagDef = none ∨ s.defn f.lossDef = none) → out (.refused .absent) u) ∧
      ∀ (sh : ShaftId) (p : PortId) (un : UnitRec) (dl ds : Definition), ¬ outside → f.shaft = sh.val → f.port = p.val →
        s.unit f.unit = some un → s.defn f.lagDef = some dl → s.defn f.lossDef = some ds →
        let unfit := (f.lagDef ≠ 0 ∧ dl.src ≠ .lag) ∨ (f.lossDef ≠ 0 ∧ ds.src ≠ .loss) ∨ un.shaft ≠ sh
        let twice := ∃ q ∈ s.axes, q.2.port = p ∧ q.2.station = f.station ∧ q.2.channel = f.channel
        (unfit → out (.refused .range) u) ∧ (¬ unfit → twice → out (.refused .duplicate) u) ∧
        (¬ unfit → ¬ twice → 2 ^ (f.shift + 23) < f.gearN.natAbs * ((s.shaft sh).vMax / 256 + 1) → out (.refused .range) u)) ∧
    ∀ (x : Nat) (sh : ShaftId) (p : PortId) (un : UnitRec) (dl ds : Definition), NextAxis s x → f.shaft = sh.val → f.port = p.val →
      f.unit ≤ 15 → f.station ≤ 15 → f.channel ≤ 1 → -8388608 ≤ f.gearN → f.gearN ≤ 8388607 → f.shift ≤ 24 →
      f.lagLimit ≤ 8388607 → f.window ≤ 255 → s.unit f.unit = some un → un.shaft = sh → s.defn f.lagDef = some dl →
      s.defn f.lossDef = some ds → (f.lagDef = 0 ∨ dl.src = .lag) → (f.lossDef = 0 ∨ ds.src = .loss) →
      (∀ q ∈ s.axes, ¬ (q.2.port = p ∧ q.2.station = f.station ∧ q.2.channel = f.channel)) →
      f.gearN.natAbs * ((s.shaft sh).vMax / 256 + 1) ≤ 2 ^ (f.shift + 23) →
      let slew := max 1 (min 65535 f.slew)
      out (if slew = f.slew then .done (.newId x) else .noted (.newId x)) (u.setAxis x
        { shaft := sh, unit := f.unit, port := p, station := f.station, channel := f.channel, gearN := f.gearN, shift := f.shift,
          rem := 0, w := 0, c := 0, t := 0, slew := slew, x := 0, y := none, e := none, lagLimit := f.lagLimit, window := f.window,
          windowCount := f.window, lagDef := f.lagDef, lossDef := f.lossDef, engaged := false, lagCause := false,
          lossCause := false, await := none })

/-- AMEND AXIS without AWAIT, for every sender that may send it (R36, R37, R42): ABSENT for an id without a record; refused whole with
the reason of the first refused field; T by itself held within its range, an awaited trim cut SUPERSEDED and the watches of the axis
marked where T is new; N and S by themselves at V = 0, with r back to 0, and refused MOVING at another V; L held within 1 to 65,535; the lag
limit with the lag cause evaluated afresh, and the window with its count loaded and the loss cause gone, their changes reported to the trip
unit (R43); the lag and loss definitions (R44; the order of their refusals is the model's choice, notes/assumptions/18.md); the drive address with Y, E and the loss cause
gone (R45; the order of its refusals likewise); the unit, with or without the shaft, with r back to 0 (R46; a shaft by itself is refused, the unit of every record lying within 0 to 15 as AxesKept says).
Nothing else changes. -/
def Obligations.AmendAxisFields : Prop :=
  ∀ (o : Origin) (r tag x : Nat) (f : AxisFields) (s : State), Ready o r (leastRights (.amendAxis o tag x f)) s →
    fieldsFit (.amendAxis o tag x f) = true →
    let u := taken o r 0x03 tag s
    let out := fun b t => exec (.amendAxis o tag x f) s = .next (answer r 0x03 tag b t)
    (s.axis x = none → out (.refused .absent) u) ∧
    ∀ a, s.axis x = some a → holderCheck s r (.unit a.unit) = none →
      (∀ why, editAxis s x f a = .error why → out (.refused why) u) ∧
      (∀ v, f = { noAxisFields with trim := some v } →
        let t := max (-524288) (min 524287 v)
        out (plainReply (decide (t ≠ v))) (markedIf (decide (t ≠ a.t)) x
          ((trimCutReply .superseded a u).setAxis x { a with t, await := none }))) ∧
      (∀ n k, f = { noAxisFields with gearN := some n, shift := some k } → -8388608 ≤ n → n ≤ 8388607 → k ≤ 24 →
        ((s.shaft a.shaft).v ≠ 0 → out (.refused .moving) u) ∧
        ((s.shaft a.shaft).v = 0 → 2 ^ (k + 23) < n.natAbs * ((s.shaft a.shaft).vMax / 256 + 1) → out (.refused .range) u) ∧
        ((s.shaft a.shaft).v = 0 → n.natAbs * ((s.shaft a.shaft).vMax / 256 + 1) ≤ 2 ^ (k + 23) →
          out (.done .plain) (u.setAxis x { a with gearN := n, shift := k, rem := 0 }))) ∧
      (∀ l, f = { noAxisFields with slew := some l } →
        out (plainReply (decide (l = 0 ∨ 65535 < l))) (u.setAxis x { a with slew := max 1 (min 65535 l) })) ∧
      (∀ v, f = { noAxisFields with lagLimit := some v } →
        (8388607 < v → out (.refused .range) u) ∧
        ∀ lag : Bool, (lag = true ↔ a.engaged = true ∧ v ≠ 0 ∧ ∃ e, a.e = some e ∧ v < e.natAbs) → v ≤ 8388607 →
          out (.done .plain) (amendedTo x { a with lagLimit := v, lagCause := lag } (decide (lag ≠ a.lagCause))
            (listIf (decide (lag ≠ a.lagCause)) [lagReport x a lag]) u)) ∧
      (∀ v, f = { noAxisFields with window := some v } →
        (255 < v → out (.refused .range) u) ∧
        (v ≤ 255 → out (.done .plain) (amendedTo x { a with window := v, windowCount := v, lossCause := false } a.lossCause
          (listIf a.lossCause [lossReport x a false]) u))) ∧
      (∀ d, f = { noAxisFields with lagDef := some d } →
        (s.defn d = none → out (.refused .absent) u) ∧
        ∀ df, s.defn d = some df →
          (d ≠ 0 → df.src ≠ .lag → out (.refused .range) u) ∧
          ((d = 0 ∨ df.src = .lag) → a.lagCause = true → out (.refused .inUse) u) ∧
          ((d = 0 ∨ df.src = .lag) → a.lagCause = false → out (.done .plain) (u.setAxis x { a with lagDef := d }))) ∧
      (∀ d, f = { noAxisFields with lossDef := some d } →
        (s.defn d = none → out (.refused .absent) u) ∧
        ∀ df, s.defn d = some df →
          (d ≠ 0 → df.src ≠ .loss → out (.refused .range) u) ∧
          ((d = 0 ∨ df.src = .loss) → a.lossCause = true → out (.refused .inUse) u) ∧
          ((d = 0 ∨ df.src = .loss) → a.lossCause = false → out (.done .plain) (u.setAxis x { a with lossDef := d }))) ∧
      (∀ pn st ch, f = { noAxisFields with port := some pn, station := some st, channel := some ch } →
        ((5 < pn ∨ 15 < st ∨ 1 < ch) → out (.refused .range) u) ∧
        ∀ p : PortId, pn = p.val → st ≤ 15 → ch ≤ 1 →
          let taken := ∃ q ∈ s.axes, q.1 ≠ x ∧ q.2.port = p ∧ q.2.station = st ∧ q.2.channel = ch
          let b := { a with port := p, station := st, channel := ch, y := none, e := none, windowCount := a.window, lossCause := false }
          let m := markedIf a.lossCause x (u.setAxis x b)
          (taken → out (.refused .duplicate) u) ∧
          (¬ taken → a.engaged = true → out (.refused .state) u) ∧
          (¬ taken → a.engaged = false → out (.done .plain) (drainReports
            { (if a.e.isSome then markWhere x (fun w => w.lastLag.isSome) m else m) with
              reports := listIf a.lossCause [lossReport x a false] }).state)) ∧
      (∀ n, a.unit ≤ 15 → f = { noAxisFields with shaft := some n } → out (.refused (if 3 < n then .range else if a.engaged then .state
          else if (s.shaft a.shaft).v ≠ 0 ∨ ∃ sh : ShaftId, n = sh.val ∧ (s.shaft sh).v ≠ 0 then .moving else .range)) u) ∧
      ∀ (sh : ShaftId) (n : Nat), (f = { noAxisFields with shaft := some sh.val, unit := some n } ∨
          (sh = a.shaft ∧ f = { noAxisFields with unit := some n })) →
        (15 < n → out (.refused .range) u) ∧ (n ≤ 15 → s.unit n = none → out (.refused .absent) u) ∧
        ∀ w, n ≤ 15 → s.unit n = some w →
          (a.engaged = true → out (.refused .state) u) ∧
          (a.engaged = false → ((s.shaft a.shaft).v ≠ 0 ∨ (s.shaft sh).v ≠ 0) → out (.refused .moving) u) ∧
          (a.engaged = false → (s.shaft a.shaft).v = 0 → (s.shaft sh).v = 0 →
            ((w.shaft ≠ sh ∨ 2 ^ (a.shift + 23) < a.gearN.natAbs * ((s.shaft sh).vMax / 256 + 1)) → out (.refused .range) u) ∧
            (w.shaft = sh → a.gearN.natAbs * ((s.shaft sh).vMax / 256 + 1) ≤ 2 ^ (a.shift + 23) →
              out (.done .plain) (u.setAxis x { a with shaft := sh, unit := n, rem := 0 })))

/-- AMEND AXIS of T with AWAIT, for every sender that may send it (R36, R38): STATE on a RELEASED axis; an immediate reply where C is at
the new T; otherwise an await for the sender, an older one cut SUPERSEDED, and the request held in flight on its axis with no reply
placed. Without a T it is refused RANGE (the model's choice of place, notes/assumptions/18.md). -/
def Obligations.AmendAxisAwaited : Prop :=
  ∀ (o : Origin) (r tag x : Nat) (f : AxisFields) (s : State), Ready o r (leastRights (.amendAxisAwait o tag x f)) s →
    let u := taken o r 0x03 tag s
    let out := fun b t => exec (.amendAxisAwait o tag x f) s = .next (answer r 0x03 tag b t)
    (s.axis x = none → out (.refused .absent) u) ∧
    ∀ a, s.axis x = some a → holderCheck s r (.unit a.unit) = none →
      (f.trim = none → out (.refused .range) u) ∧
      ∀ v, f = { noAxisFields with trim := some v } →
        let t := max (-524288) (min 524287 v)
        let w := markedIf (decide (t ≠ a.t)) x ((trimCutReply .superseded a u).setAxis x { a with t, await := none })
        (a.engaged = false → out (.refused .state) u) ∧
        (a.engaged = true → a.c = t → out (plainReply (decide (t ≠ v))) w) ∧
        (a.engaged = true → a.c ≠ t →
          exec (.amendAxisAwait o tag x f) s = .next (setFlight r (some { kind := 0x03, tag, awaited := some (.axis x) })
            (w.setAxis x { a with t, await := some { requester := some r, noted := decide (t ≠ v) } })))

/-- ENGAGE for every sender that may send it (R47): the refusals in their order, and the axis ENGAGED with C = X − W, its X, W, T and r
kept and its watches marked. Nothing else changes. -/
def Obligations.EngageTable : Prop :=
  ∀ (o : Origin) (r tag x : Nat) (s : State), Ready o r .operator s →
    let u := taken o r 0x18 tag s
    let out := fun b t => exec (.engage o tag x) s = .next (answer r 0x18 tag b t)
    (s.axis x = none → out (.refused .absent) u) ∧
    ∀ a, s.axis x = some a → holderCheck s r (.unit a.unit) = none →
      (a.engaged = true → out (.refused .state) u) ∧
      (a.engaged = false → (s.shaft a.shaft).v ≠ 0 → out (.refused .moving) u) ∧
      (a.engaged = false → (s.shaft a.shaft).v = 0 → HaltCovered s x a → out (.refused .tripped) u) ∧
      (a.engaged = false → (s.shaft a.shaft).v = 0 → ¬ HaltCovered s x a → 8388607 < (a.x - a.w).toInt.natAbs →
        out (.refused .far) u) ∧
      (a.engaged = false → (s.shaft a.shaft).v = 0 → ¬ HaltCovered s x a → (a.x - a.w).toInt.natAbs ≤ 8388607 →
        out (.done .plain) (markAxis x (u.setAxis x { a with c := (a.x - a.w).toInt, engaged := true })))

/-- RELEASE for every sender that may send it (R48): NOTED on a RELEASED axis; an ENGAGED axis without a lag cause is RELEASED with C and
T kept, its awaited trim cut RELEASED and its watches marked, and nothing else changes; with a lag cause the axis is left the same way
and the cause is gone, its change reported to the trip unit (R52), which takes it as SourceAbsentTaken and FeedbackStored say. -/
def Obligations.ReleaseTable : Prop :=
  ∀ (o : Origin) (r tag x : Nat) (s : State), Ready o r .operator s →
    let u := taken o r 0x19 tag s
    let out := fun b t => exec (.release o tag x) s = .next (answer r 0x19 tag b t)
    (s.axis x = none → out (.refused .absent) u) ∧
    ∀ a, s.axis x = some a → holderCheck s r (.unit a.unit) = none →
      (a.engaged = false → out (.noted .plain) u) ∧
      (a.engaged = true → a.lagCause = false →
        out (.done .plain) (markAxis x ((trimCutReply .released a u).setAxis x { a with await := none, engaged := false }))) ∧
      (a.engaged = true → a.lagCause = true →
        ∃ t, exec (.release o tag x) s = .next t ∧ t.axis x = some { a with await := none, engaged := false, lagCause := false } ∧
          slotOf t r = some { kind := 0x19, tag, body := .done .plain } ∧ TripFrame u t ∧ ∀ y, y ≠ x → t.axis y = s.axis y) ∧
      (a.engaged = true → a.lagCause = true → out (.done .plain) (drainReports
        { markAxis x ((trimCutReply .released a u).setAxis x { a with await := none, engaged := false, lagCause := false }) with
          reports := [lagReport x a false] }).state)

/-- RETIRE AXIS from the line computer (R50, R139): ABSENT, IN_USE while ENGAGED or a source axis of an entry; otherwise the record
leaves the table, every watch set and every pending queue, and nothing else changes, but that a cause it has is first gone and reported
dropped to the trip unit, the lag cause before the loss cause as R50 names them. -/
def Obligations.RetireAxisTaken : Prop :=
  (∀ (tag x : Nat) (s : State), Ready .line 0 .line s →
    let u := taken .line 0 0x04 tag s
    let out := fun b t => exec (.retireAxis .line tag x) s = .next (answer 0 0x04 tag b t)
    (s.axis x = none → out (.refused .absent) u) ∧
    ∀ a, s.axis x = some a →
      ((a.engaged = true ∨ ∃ e ∈ s.trips, x ∈ e.sourceAxes) → out (.refused .inUse) u) ∧
      (a.engaged = false → (∀ e ∈ s.trips, x ∉ e.sourceAxes) → a.lagCause = false → a.lossCause = false →
        out (.done .plain) (dropAxis x u)) ∧
      (a.engaged = false → (∀ e ∈ s.trips, x ∉ e.sourceAxes) → (a.lagCause = true ∨ a.lossCause = true) →
        out (.done .plain) (dropAxis x (drainReports
          { markAxis x (u.setAxis x { a with lagCause := false, lossCause := false }) with
            reports := listIf a.lagCause [lagReport x a false] ++ listIf a.lossCause [lossReport x a false] }).state))) ∧
  ∀ (x : Nat) (s : State),
    (dropAxis x s).axes = tblErase s.axes x ∧
    (∀ k, (dropAxis x s).console k = (s.console k).map (fun c => { c with watches := c.watches.filter (fun w => w.axis != x) })) ∧
    (∀ p, (dropAxis x s).port p = { s.port p with valueQ := (s.port p).valueQ.filter (fun e => e.2 != x) }) ∧
    { dropAxis x s with axes := s.axes, consoles := s.consoles, ports := s.ports } = s

/-- FEEDBACK from a station of an UP port, the hub NORMAL or FAILED (R51, R52, R165, R176). A frame of several entries leaves what its entries leave as frames of
one entry each, one after another in their order: that the reports of an entry are taken before the next entry is the model's choice
(notes/assumptions/22.md). An entry is discarded from a station that is no drive station, for a channel
no axis has, and for an E out of range; otherwise Y and E stored, the window reloaded and the watches tested against the band, where
no cause changes; a loss cause that was present is gone, the lag cause is evaluated afresh, and their changes are reported in that order
(R53, R64). Reports are taken one by one in their order; what one does is said in SourcePresentTaken and SourceAbsentTaken. -/
def Obligations.FeedbackStored : Prop :=
  (∀ (p : PortId) (st : Nat) (en : FbEntry) (s : State), Steady s → (s.port p).state = .up → st < 16 →
    let u := arrived (.console p st) s
    ((∀ q ∈ s.axes, ¬ (q.2.port = p ∧ q.2.station = st)) → exec (.feedback p st [en]) s = .next u) ∧
    (axisAt s p.val st en.channel = none → exec (.feedback p st [en]) s = .next u) ∧
    ∀ x a, axisAt s p.val st en.channel = some x → s.axis x = some a → a.port = p → a.station = st →
      ((en.e < -8388608 ∨ 8388607 < en.e) → exec (.feedback p st [en]) s = .next u) ∧
      (-8388608 ≤ en.e → en.e ≤ 8388607 →
        a.lagCause = (a.engaged && decide (a.lagLimit ≠ 0 ∧ a.lagLimit < en.e.natAbs)) →
        (a.lossCause = false →
          exec (.feedback p st [en]) s = .next (markWhere x
            (fun w => match w.lastLag with
              | none => true
              | some e => decide (s.hub.watchBand ≤ (en.e - e).natAbs))
            (u.setAxis x { a with y := some en.y, e := some en.e, windowCount := a.window }))) ∧
        (a.lossCause = true →
          ∃ t, exec (.feedback p st [en]) s = .next t ∧
            t.axis x = some { a with y := some en.y, e := some en.e, windowCount := a.window, lossCause := false } ∧
              TripFrame u t ∧ ∀ z, z ≠ x → t.axis z = s.axis z)) ∧
      (-8388608 ≤ en.e → en.e ≤ 8388607 →
        let lag := a.engaged && decide (a.lagLimit ≠ 0 ∧ a.lagLimit < en.e.natAbs)
        let b := { a with y := some en.y, e := some en.e, windowCount := a.window }
        let m := markWhere x (fun w => match w.lastLag with
            | none => true
            | some e => decide (s.hub.watchBand ≤ (en.e - e).natAbs)) (u.setAxis x b)
        exec (.feedback p st [en]) s = .next (drainReports
          { markedIf (a.lossCause || decide (lag ≠ a.lagCause)) x (m.setAxis x { b with lagCause := lag, lossCause := false }) with
            reports := listIf a.lossCause [lossReport x a false] ++ listIf (decide (lag ≠ a.lagCause)) [lagReport x a lag] }).state)) ∧
  (∀ (p : PortId) (st : Nat) (en : FbEntry) (es : List FbEntry) (s t : State), Steady s → TablesOk s → (s.port p).state = .up → st < 16 →
    exec (.feedback p st [en]) s = .next t → exec (.feedback p st (en :: es)) s = exec (.feedback p st es) t) ∧
  (∀ s : State, s.reports = [] → drainReports s = .on s) ∧
  ∀ (r : Report) (rest : List Report) (s t : State), s.reports = r :: rest → takeReport r { s with reports := rest } = .on t →
    t.reports = rest → t.axes.length = s.axes.length → drainReports s = drainReports t

/-- The requests on trip definitions from the line computer (R59, R60, R61). ENROL: FULL; RANGE and DUPLICATE as R59 says; otherwise the lowest
free index, the flag cleared on LINE 0 and LINE 1, and a source that stands already raised at once under it, whatever the category. AMEND: RANGE for D0, ABSENT,
IN_USE with an entry or held; a category by itself changes that alone; another line for the source, IN_USE where an axis names a LAG or LOSS
definition, RANGE, DUPLICATE, or the new source, raised at once where it stands (notes/assumptions/19.md). RETIRE: RANGE, ABSENT,
IN_USE, or the index is free again. -/
def Obligations.DefinitionRequests : Prop :=
  (∀ (tag : Nat) (src : SourceSpec) (scope : Scope) (cat : Category) (m : Bool) (s : State), Ready .line 0 .line s →
    let u := taken .line 0 0x02 tag s
    let out := fun b t => exec (.enrolDefinition .line tag src scope cat m) s = .next (answer 0 0x02 tag b t)
    ((∀ y, 1 ≤ y → y ≤ 31 → (s.defn y).isSome = true) → out (.refused .full) u) ∧
    ∀ d, NextDefinition s d →
      (DefMisfit src scope → out (.refused .range) u) ∧
      (¬ DefMisfit src scope → WatchedTwice s d src → out (.refused .duplicate) u) ∧
      (¬ DefMisfit src scope → ¬ WatchedTwice s d src →
        let barred := decide (src = .line 0 ∨ src = .line 1)
        let reply : ReplyBody := if m && barred then .noted (.newId d) else .done (.newId d)
        let df : Definition := { src, scope, category := cat, maskable := m && !barred, held := false, cause := false, presentAxes := [] }
        ((∀ so, specSource src = some so → ¬ Standing s so) → out reply (u.setDefn d df)) ∧
        ∀ so, specSource src = some so → Standing s so → TablesOk s → CatchAllOk s →
          ∃ t, out reply t ∧ RaisedAtOnce s u t d df so)) ∧
  (∀ (tag d : Nat) (f : DefFields) (s : State), Ready .line 0 .line s → fieldsFit (.amendDefinition .line tag d f) = true →
    let u := taken .line 0 0x03 tag s
    let out := fun b t => exec (.amendDefinition .line tag d f) s = .next (answer 0 0x03 tag b t)
    ((d = 0 ∨ 31 < d) → out (.refused .range) u) ∧
    (0 < d → d ≤ 31 → s.defn d = none → out (.refused .absent) u) ∧
    ∀ df, 0 < d → d ≤ 31 → s.defn d = some df →
      (((entryOf s d).isSome = true ∨ df.held = true) → out (.refused .inUse) u) ∧
      (∀ cat, entryOf s d = none → df.held = false → ¬ DefMisfit df.src df.scope → ¬ WatchedTwice s d df.src →
        (df.maskable = true → df.src ≠ .line 0 ∧ df.src ≠ .line 1) →
        (∀ so, specSource df.src = some so → ¬ Standing s so) → f = { noDefFields with category := some cat } →
        out (.done .plain) (u.setDefn d { df with category := cat })) ∧
      ∀ n, entryOf s d = none → df.held = false → f = { noDefFields with kind := some .line, line := some n } →
        let named := (df.src = .lag ∨ df.src = .loss) ∧ ∃ q ∈ s.axes, q.2.lagDef = d ∨ q.2.lossDef = d
        let reply := plainReply (df.maskable && decide (n ≤ 1))
        let new : Definition := { df with src := .line n, maskable := df.maskable && decide (1 < n) }
        (named → out (.refused .inUse) u) ∧
        (¬ named → DefMisfit (.line n) df.scope → out (.refused .range) u) ∧
        (¬ named → ¬ DefMisfit (.line n) df.scope → WatchedTwice s d (.line n) → out (.refused .duplicate) u) ∧
        (¬ named → ¬ DefMisfit (.line n) df.scope → ¬ WatchedTwice s d (.line n) →
          (¬ Standing s (.line n) → out reply (u.setDefn d new)) ∧
          (Standing s (.line n) → TablesOk s → CatchAllOk s →
            ∃ t, out reply t ∧ RaisedAtOnce s u t d new (.line n)))) ∧
  ∀ (tag d : Nat) (s : State), Ready .line 0 .line s →
    let u := taken .line 0 0x04 tag s
    let out := fun b t => exec (.retireDefinition .line tag d) s = .next (answer 0 0x04 tag b t)
    ((d = 0 ∨ 31 < d) → out (.refused .range) u) ∧
    (0 < d → d ≤ 31 → s.defn d = none → out (.refused .absent) u) ∧
    ∀ df, 0 < d → d ≤ 31 → s.defn d = some df →
      (((entryOf s d).isSome = true ∨ df.held = true ∨ ∃ q ∈ s.axes, q.2.lagDef = d ∨ q.2.lossDef = d) → out (.refused .inUse) u) ∧
      (entryOf s d = none → df.held = false → (∀ q ∈ s.axes, q.2.lagDef ≠ d ∧ q.2.lossDef ≠ d) →
        out (.done .plain) { u with defs := tblErase s.defs d })

/-! ### Trips (chapter 4) -/

/-- A source comes present, the hub NORMAL or FAILED (R62 to R68, R71 to R77, R81 to R83; a link, at the loss of its port: Reception): source axes and coverage of a definition, and what its cause makes. Its
definition, with no entry: held where maskable under INHIBIT; otherwise an entry at the tail, RAISED, with its coverage, TRIPS, and the
demand of each covered shaft with the stop it calls for; under HALT STOPCHAIN is open, the shafts of scope SHAFT or ALL are TRIPPED at V = 0, and
the axes of those shafts, of the unit or of the source are released, their awaited trims CUT. With an entry: a CLEARED one is RAISED again in its place, another
stands. Without a definition it joins the unmatched-source set as `SetJoined` says. A LAG or LOSS report that a cause is present does the same
for the definition it names: the first axis brings the cause, a further one joins the present axes, and under scope SOURCE the entry. The
ascending order of these axes is the model's choice (notes/assumptions/38.md). -/
def Obligations.SourcePresentTaken : Prop :=
  (∀ (s : State) (df : Definition), TablesOk s → (∀ x, x ∈ sourceAxesOf s df ↔ df.scope = .source ∧
      (((df.src = .lag ∨ df.src = .loss) ∧ x ∈ df.presentAxes) ∨
        ∃ a c, s.axis x = some a ∧ df.src = .station a.port.val a.station c)) ∧
    ∀ sh : ShaftId, sh ∈ coverageOf s df ↔ df.scope = .all ∨ df.scope = .shaft sh.val ∨
      (∃ u w, df.scope = .unit u ∧ s.unit u = some w ∧ w.shaft = sh) ∨
      (df.scope = .source ∧ ∃ x a, x ∈ sourceAxesOf s df ∧ s.axis x = some a ∧ a.shaft = sh)) ∧
  (∀ (i : Instr) (s s0 : State) (src : Source), Steady s → BringsPresent i s src s0 →
    (∀ d df, watcherOf s src = some d → s.defn d = some df → entryOf s d = none →
      (df.maskable = true → s.inhibitPin = true →
        exec i s = .next (s0.setDefn d { df with cause := true, held := true })) ∧
      ((df.maskable = false ∨ s.inhibitPin = false) → df.category ≠ .halt →
        ∃ t, exec i s = .next t ∧ t.defn d = some { df with cause := true } ∧
          t.trips = s.trips ++ [raisedEntry d (coverageOf s df) (sourceAxesOf s df) src] ∧
          t.line.flags.trips = true ∧ t.axes = s0.axes ∧ TripFrame s0 t ∧ t.unmatched = s.unmatched ∧ (∀ j, j ≠ d → t.defn j = s.defn j) ∧
          (∀ sh, sh ∉ coverageOf s df → t.shaft sh = s.shaft sh) ∧
          ∀ sh ∈ coverageOf s df, (t.shaft sh).demand = demandOf t sh ∧
            (df.category = .quick → (t.shaft sh).demand = .quick) ∧
            ((s.shaft sh).demand = .none → (s.shaft sh).state = .standby → (t.shaft sh).state = .tripped) ∧
            ((s.shaft sh).demand = .none →
              ((s.shaft sh).state = .running ∨ (s.shaft sh).state = .inching ∨ (s.shaft sh).state = .stopping) →
              (t.shaft sh).state = .tripStopping ∧ (t.shaft sh).vt = 0 ∧ (t.shaft sh).inch = none ∧
              (df.category = .quick → (t.shaft sh).tripRate = some .quick))) ∧
      ((df.maskable = false ∨ s.inhibitPin = false) → df.category = .halt → (df.scope = .all ∨ ∃ n, n < 4 ∧ df.scope = .shaft n) →
        ∃ t, exec i s = .next t ∧ t.stopchainOpen = true ∧ TripFrame s0 t ∧
          ∀ sh ∈ coverageOf s df, (t.shaft sh).state = .tripped ∧ (t.shaft sh).v = 0) ∧
      ((df.maskable = false ∨ s.inhibitPin = false) → TablesOk s → df.category = .halt →
        let rel := ReleasedBy df (coverageOf s df) (sourceAxesOf s df)
        ∃ t, exec i s = .next t ∧ t.stopchainOpen = true ∧ TripFrame s0 t ∧ AxesReleased rel s t ∧
          (∀ sh ∈ coverageOf s df, (t.shaft sh).demand = .quick) ∧
          (∀ k f x a, flightOf s k = some f → AwaitsTrim s k x a → a.engaged = true → rel x a →
            slotOf t k = some { kind := f.kind, tag := f.tag, body := .cut .tripped (a.t - a.c) }) ∧
          ((∀ x a, s.axis x = some a → rel x a → a.lagCause = false) →
            EntryMade s t d df (coverageOf s df) (sourceAxesOf s df) src ∧ t.defn d = some { df with cause := true } ∧
            t.unmatched = s.unmatched ∧ ∀ j, j ≠ d → t.defn j = s.defn j))) ∧
    (TablesOk s → ∀ d df e, watcherOf s src = some d → s.defn d = some df → entryOf s d = some e →
      (e.state ≠ .cleared → exec i s = .next (s0.setDefn d { df with cause := true })) ∧
      (e.state = .cleared → (df.category ≠ .halt ∨ df.scope ≠ .source ∨ ∀ q ∈ s.axes, q.2.lagCause = false) →
        ∃ t, exec i s = .next t ∧ EntryGrown s t d df e .raised none (sourceAxesOf s df) ∧ TripFrame s0 t ∧
          t.defn d = some { df with cause := true } ∧ t.unmatched = s.unmatched ∧ ∀ j, j ≠ d → t.defn j = s.defn j)) ∧
    (watcherOf s src = none → TablesOk s → CatchAllOk s → ∃ t, exec i s = .next t ∧ SetJoined src s0 t) ∧
    (watcherOf s src = none → src ∉ s.unmatched → CatchAllOk s → s.unmatched.length < 16 →
      ((s.unmatched ≠ [] ∨ s.overflow = true) → exec i s = .next { s0 with unmatched := s.unmatched ++ [src] }) ∧
      (s.unmatched = [] → s.overflow = false → entryOf s 0 = none →
        ∃ t, exec i s = .next t ∧ t.unmatched = [src] ∧
          t.trips = s.trips ++ [raisedEntry 0 [0, 1, 2, 3] [] src] ∧
          t.line.flags.trips = true ∧ t.axes = s0.axes ∧ TripFrame s0 t ∧ ∀ sh : ShaftId, (t.shaft sh).demand = .quick))) ∧
  ∀ (r : Report) (s : State), Awake s → TablesOk s → r.present = true →
    (r.defn = 0 → CatchAllOk s → ∃ t, takeReport r s = .on t ∧ SetJoined (reportSource r) s t) ∧
    (r.defn ≠ 0 → s.defn r.defn = none → takeReport r s = .on s) ∧
    ∀ df, r.defn ≠ 0 → s.defn r.defn = some df →
      ∃ l : List Nat, (∀ y, y ∈ l ↔ y = r.axis ∨ y ∈ df.presentAxes) ∧ (df.presentAxes.Pairwise (· < ·) → l.Pairwise (· < ·)) ∧
        let d := r.defn
        let now : Definition := { df with presentAxes := l }
        let grown := fun st acked xs => ∃ t lags, takeReport r s = .on t ∧ TripFrame s { t with reports := s.reports } ∧
          t.reports = s.reports ++ lags ∧ (∀ g ∈ lags, g.kind = .lag ∧ g.present = false) ∧
          ∀ e, entryOf s d = some e → EntryGrown s t d df e st acked xs
        (df.presentAxes ≠ [] →
          (∀ e, df.scope = .source → entryOf s d = some e → r.axis ∉ e.sourceAxes → grown e.state e.ackedBy [r.axis]) ∧
          ((df.scope ≠ .source ∨ ∀ e, entryOf s d = some e → r.axis ∈ e.sourceAxes) → takeReport r s = .on (s.setDefn d now))) ∧
        (df.presentAxes = [] →
          (entryOf s d = none → df.maskable = true → s.inhibitPin = true →
            takeReport r s = .on (s.setDefn d { now with cause := true, held := true })) ∧
          (entryOf s d = none → (df.maskable = false ∨ s.inhibitPin = false) →
            ∃ t lags, takeReport r s = .on t ∧ TripFrame s { t with reports := s.reports } ∧ t.defn d = some { now with cause := true } ∧
              t.reports = s.reports ++ lags ∧
              (∀ g, g ∈ lags ↔ ∃ x a, s.axis x = some a ∧ a.engaged = true ∧ a.lagCause = true ∧ g = lagReport x a false ∧
                ReleasedBy df (coverageOf s now) (sourceAxesOf s now) x a) ∧
              EntryMade s t d df (coverageOf s now) (sourceAxesOf s now) (reportSource r)) ∧
          ∀ e, entryOf s d = some e →
            (e.state = .cleared → grown .raised none (sourceAxesOf s now)) ∧
            (e.state ≠ .cleared → takeReport r s = .on (s.setDefn d { now with cause := true })))

/-- A source goes absent, the hub NORMAL or FAILED (R63, R65 to R67, R72, R74, R77, R83), by a trip line, a DROP, or the arrival of a link at UP (R163). Its definition's cause goes
absent: without an entry the cause and the held flag are cleared; an entry RAISED becomes CLEARED in its place, acked-by kept, with TRIPS and
the watches of the covered axes marked; an entry ACKED leaves the list, and the demand of each shaft it covered is formed afresh. Without a
definition it leaves the unmatched-source set, and the cause of D0 goes absent with the last. A LAG or LOSS report that a cause is gone takes
the axis out of the present axes of the definition it names, and the cause goes absent with the last. -/
def Obligations.SourceAbsentTaken : Prop :=
  (∀ (i : Instr) (s s0 : State) (src : Source), Steady s → BringsAbsent i s src s0 →
    (∀ d df, watcherOf s src = some d → s.defn d = some df → ∃ t, exec i s = .next t ∧ CauseGone s0 t d df) ∧
    (watcherOf s src = none → ∃ t, exec i s = .next t ∧ SetLeft src s0 t)) ∧
  ∀ (r : Report) (s : State), Awake s → r.present = false →
    (r.defn = 0 → ∃ t, takeReport r s = .on t ∧ SetLeft (reportSource r) s t) ∧
    (r.defn ≠ 0 → s.defn r.defn = none → takeReport r s = .on s) ∧
    ∀ df, r.defn ≠ 0 → s.defn r.defn = some df →
      let left := df.presentAxes.filter (· != r.axis)
      ((left ≠ [] ∨ df.presentAxes = []) → takeReport r s = .on (s.setDefn r.defn { df with presentAxes := left })) ∧
      (left = [] → df.presentAxes ≠ [] → ∃ t, takeReport r s = .on t ∧
        CauseGone (s.setDefn r.defn { df with presentAxes := left }) t r.defn { df with presentAxes := left })

/-- The INHIBIT pin, the hub NORMAL or FAILED (R68, R69, R83): asserting it changes the pin alone, no flag and no entry; releasing it with no definition held changes the pin
alone; at the level that INHIBIT has already nothing changes. Released with definitions held, none of which has an entry, it clears their held flags and creates their entries at the tail in
ascending index, with TRIPS; the axes that a HALT entry releases are RELEASED, a HALT opens STOPCHAIN and trips the shafts of scope SHAFT or ALL, and the demand of each covered shaft is
formed afresh. Where an axis so released had a lag cause, its drop is reported, which may move entries further. That INHIBIT holds a
maskable definition is said in SourcePresentTaken. -/
def Obligations.InhibitRule : Prop :=
  ∀ s : State,
    (Steady s → exec .inhibitAsserted s = .next { s with inhibitPin := true }) ∧
    (s.inhibitPin = true → exec .inhibitAsserted s = .next s) ∧ (s.inhibitPin = false → exec .inhibitReleased s = .next s) ∧
    (Steady s → (∀ q ∈ s.defs, q.2.held = false) → exec .inhibitReleased s = .next { s with inhibitPin := false }) ∧
    (Steady s → s.inhibitPin = true → ∀ d df, tblFind (fun g => g.held) s.defs = [d] → s.defn d = some df → entryOf s d = none → df.category ≠ .halt →
      ∃ t, exec .inhibitReleased s = .next t ∧ t.inhibitPin = false ∧ t.defn d = some { df with held := false } ∧
        t.line.flags.trips = true ∧ t.axes = s.axes ∧ TripFrame { s with inhibitPin := false } t ∧
        (∀ sh, sh ∉ coverageOf s df → t.shaft sh = s.shaft sh) ∧
        t.trips = s.trips ++ [raisedEntry d (coverageOf s df) (sourceAxesOf s df) (firstSourceOf s df)]) ∧
    (Steady s → s.inhibitPin = true → TablesOk s → (∀ d df, s.defn d = some df → df.held = true → entryOf s d = none) →
      let rel := fun x a => ∃ d df, s.defn d = some df ∧ df.held = true ∧ ReleasedBy df (coverageOf s df) (sourceAxesOf s df) x a
      ∃ t, exec .inhibitReleased s = .next t ∧ t.inhibitPin = false ∧ TripFrame { s with inhibitPin := false } t ∧ AxesReleased rel s t ∧
        (∀ d df, s.defn d = some df → df.held = true → t.line.flags.trips = true ∧ (df.category = .halt → t.stopchainOpen = true) ∧
          ∀ sh ∈ coverageOf s df, (t.shaft sh).demand = demandOf t sh ∧ (df.category ≠ .ramp → (t.shaft sh).demand = .quick) ∧
            (df.category = .halt → (df.scope = .all ∨ ∃ n, df.scope = .shaft n) → (t.shaft sh).state = .tripped ∧ (t.shaft sh).v = 0)) ∧
        ((∀ x a, s.axis x = some a → rel x a → a.lagCause = false) →
          t.trips = s.trips ++ (s.defs.filter (fun q => q.2.held)).map (fun q =>
            raisedEntry q.1 (coverageOf s q.2) (sourceAxesOf s q.2) (firstSourceOf s q.2)) ∧
          (∀ d, t.defn d = (s.defn d).map (fun df => { df with held := false })) ∧ t.unmatched = s.unmatched ∧
          ∀ sh, (∀ d df, s.defn d = some df → df.held = true → sh ∉ coverageOf s df) → t.shaft sh = s.shaft sh))

/-- A change of demand taken by a shaft (R14, R15): from NONE it stops a moving shaft at the demand's rate, trips a standing one and cuts
its inch TRIPPED; RAMP to QUICK quickens a trip stop and leaves a shaft in another state, TRIPPED, with the demand alone changed; QUICK to RAMP keeps the rate; to NONE it turns a trip stop into a stop at Dn and
lets a TRIPPED shaft of a NORMAL hub stand by, while a FAILED hub's stays TRIPPED. -/
def Obligations.DemandTaken : Prop :=
  ∀ (sh : ShaftId) (d : Demand) (s : State),
    let a := s.shaft sh
    let rate := if d = .ramp then TripRate.ramp else .quick
    let cut := fun (b : Shaft) => (inchCutReply .tripped a (setFlag .shafts (s.setShaft sh b))).setShaft sh { b with inch := none }
    (a.demand = .none → d ≠ .none → (a.state = .running ∨ a.state = .inching ∨ a.state = .stopping) →
      takeDemand sh d s = cut { a with demand := d, state := .tripStopping, vt := 0, tripRate := some rate }) ∧
    (a.demand = .none → d ≠ .none → a.state = .standby → takeDemand sh d s = cut { a with demand := d, state := .tripped }) ∧
    (a.demand = .none → d ≠ .none → (a.state = .tripStopping ∨ a.state = .tripped) →
      takeDemand sh d s = s.setShaft sh { a with demand := d }) ∧
    (a.demand = .ramp → d = .quick → a.state = .tripStopping →
      takeDemand sh d s = s.setShaft sh { a with demand := .quick, tripRate := some .quick }) ∧
    (a.demand = .ramp → d = .quick → a.state ≠ .tripStopping → takeDemand sh d s = s.setShaft sh { a with demand := .quick }) ∧
    (a.demand ≠ .none → d = .none → a.state ≠ .tripStopping → a.state ≠ .tripped → takeDemand sh d s = s.setShaft sh { a with demand := .none }) ∧
    (a.demand = .quick → d = .ramp → takeDemand sh d s = s.setShaft sh { a with demand := .ramp }) ∧
    (a.demand ≠ .none → d = .none → a.state = .tripStopping →
      takeDemand sh d s = setFlag .shafts (s.setShaft sh { a with demand := .none, state := .stopping, tripRate := none })) ∧
    (a.demand ≠ .none → d = .none → a.state = .tripped → s.failed = false →
      takeDemand sh d s = setFlag .shafts (s.setShaft sh { a with demand := .none, state := .standby })) ∧
    (a.demand ≠ .none → d = .none → a.state = .tripped → s.failed = true → takeDemand sh d s = s.setShaft sh { a with demand := .none })

/-- ACKNOWLEDGE of one definition and of ALL, for every sender that may send it (R72, R78, R79). Of one: RANGE, ABSENT; NOTED on an ACKED entry;
a RAISED entry ACKED by the sender in its place, with TRIPS and the watches of the covered axes marked; a CLEARED entry gone from the list
with the demands of the shafts it covered formed afresh. Of ALL: each RAISED entry ACKED by the sender, each CLEARED one gone, each ACKED one
unchanged, in their places; DONE where an entry changed and NOTED where none did. -/
def Obligations.AcknowledgeTables : Prop :=
  (∀ (o : Origin) (r tag d : Nat) (s : State), Ready o r .operator s →
    let u := taken o r 0x28 tag s
    let out := fun b t => exec (.acknowledge o tag d) s = .next (answer r 0x28 tag b t)
    (31 < d → out (.refused .range) u) ∧
    (d ≤ 31 → entryOf s d = none → out (.refused .absent) u) ∧
    ∀ e, d ≤ 31 → entryOf s d = some e →
      (e.state = .acked → out (.noted .plain) u) ∧
      (e.state = .raised → out (.done .plain) (setFlag .trips (markCovered e.coverage
        { u with trips := s.trips.map (fun g => if g.defn = d then { g with state := .acked, ackedBy := some r } else g) }))) ∧
      (e.state = .cleared →
        ∃ t, exec (.acknowledge o tag d) s = .next t ∧ t.trips = s.trips.filter (fun g => g.defn != d) ∧ t.line.flags.trips = true ∧
          slotOf t r = some { kind := 0x28, tag, body := .done .plain } ∧ t.defs = s.defs ∧ t.axes = s.axes ∧ TripFrame u t ∧
          ∀ sh, (sh ∈ e.coverage → (t.shaft sh).demand = demandOf t sh) ∧ (sh ∉ e.coverage → t.shaft sh = s.shaft sh))) ∧
  ∀ (o : Origin) (r tag : Nat) (s : State), Ready o r .operator s → TablesOk s →
    let idle := s.trips.all (fun e => decide (e.state = .acked))
    (idle = true → exec (.acknowledgeAll o tag) s = .next (answer r 0x28 tag (.noted .plain) (taken o r 0x28 tag s))) ∧
    ∃ t, exec (.acknowledgeAll o tag) s = .next t ∧
      t.trips = (s.trips.filter (fun e => decide (e.state ≠ .cleared))).map (fun e =>
        if e.state = .raised then { e with state := .acked, ackedBy := some r } else e) ∧
      slotOf t r = some { kind := 0x28, tag, body := plainReply idle } ∧ t.defs = s.defs ∧ t.axes = s.axes ∧
      TripFrame (taken o r 0x28 tag s) t

/-! ### Units, grants, triggers, views and tiles (chapters 5 to 7) -/

/-- The unit requests from the line computer (R88, R89, R90): the refusals in their order, and the record created with an empty stack
and its id in the reply (R150, R182), moved to its new shaft with its stack kept, or removed. Nothing else changes. -/
def Obligations.UnitRequests : Prop :=
  (∀ (tag n k : Nat) (s : State), Ready .line 0 .line s →
    let u := taken .line 0 0x02 tag s
    let out := fun b t => exec (.enrolUnit .line tag n k) s = .next (answer 0 0x02 tag b t)
    ((15 < n ∨ 3 < k) → out (.refused .range) u) ∧
    (n ≤ 15 → k ≤ 3 → (s.unit n).isSome = true → out (.refused .duplicate) u) ∧
    ∀ sh : ShaftId, k = sh.val → n ≤ 15 → s.unit n = none →
      out (.done (.newId n)) { u with units := tblSet s.units n { shaft := sh, stack := [] } }) ∧
  (∀ (tag n k : Nat) (s : State), Ready .line 0 .line s →
    let u := taken .line 0 0x03 tag s
    let out := fun b t => exec (.amendUnit .line tag n k) s = .next (answer 0 0x03 tag b t)
    ((15 < n ∨ 3 < k) → out (.refused .range) u) ∧
    (n ≤ 15 → k ≤ 3 → s.unit n = none → out (.refused .absent) u) ∧
    ∀ (sh : ShaftId) (a : UnitRec), k = sh.val → n ≤ 15 → s.unit n = some a →
      ((∃ q ∈ s.axes, q.2.unit = n) → out (.refused .inUse) u) ∧
      ((∀ q ∈ s.axes, q.2.unit ≠ n) →
        out (plainReply (decide (a.shaft = sh))) { u with units := tblSet s.units n { a with shaft := sh } })) ∧
  ∀ (tag n : Nat) (s : State), Ready .line 0 .line s →
    let u := taken .line 0 0x04 tag s
    let out := fun b t => exec (.retireUnit .line tag n) s = .next (answer 0 0x04 tag b t)
    (15 < n → out (.refused .range) u) ∧
    (n ≤ 15 → s.unit n = none → out (.refused .absent) u) ∧
    ∀ a, n ≤ 15 → s.unit n = some a →
      (((∃ q ∈ s.axes, q.2.unit = n) ∨ a.stack ≠ []) → out (.refused .inUse) u) ∧
      ((∀ q ∈ s.axes, q.2.unit ≠ n) → a.stack = [] → out (.done .plain) { u with units := tblErase s.units n })

/-- GRANT for every sender with OPERATOR rights or above, and its refusal to one below (R86, R92): the table of R92 row by row. Where the
sender is pushed, the stack alone changes and GRANTS is set for every requester; a preempted holder is again the holder when the entry
above it is gone. -/
def Obligations.GrantTable : Prop :=
  (∀ (st : List Nat) (r : Nat), holderOf (st ++ [r]) = some r ∧ (r ∉ st → holderOf ((st ++ [r]).filter (· != r)) = holderOf st)) ∧
  (∀ (o : Origin) (r tag : Nat) (cp : ControlPoint) (has : Rights) (s : State), Quiet s → SendsAs o r s → flightOf s r = none →
    rightsOf s r = some has → has = .viewer →
    exec (.grant o tag cp) s = .next (answer r 0x20 tag (.refused .rights) (taken o r 0x20 tag s))) ∧
  ∀ (o : Origin) (r tag : Nat) (cp : ControlPoint) (s : State), Ready o r .operator s →
    let u := taken o r 0x20 tag s
    let out := fun b t => exec (.grant o tag cp) s = .next (answer r 0x20 tag b t)
    (cpInRange cp = false → out (.refused .range) u) ∧
    (cpInRange cp = true → stackOf s cp = none → out (.refused .absent) u) ∧
    ∀ st, cpInRange cp = true → stackOf s cp = some st →
      (holderOf st = some r → out (.noted .plain) u) ∧
      (holderOf st ≠ some r → r ∈ st → out (.refused .duplicate) u) ∧
      (st = [] → out (.done .plain) (setFlag .grants (setStack cp [r] u))) ∧
      ∀ h, holderOf st = some h → h ≠ r → r ∉ st →
        (rightsRank s r ≤ rightsRank s h → out (.refused .held) u) ∧
        (rightsRank s h < rightsRank s r → 4 ≤ st.length → out (.refused .deep) u) ∧
        (rightsRank s h < rightsRank s r → st.length < 4 → out (.done .plain) (setFlag .grants (setStack cp (st ++ [r]) u)))

/-- YIELD for every sender with OPERATOR rights or above (R86, R94): a holder's entry is popped with GRANTS set, a waiting entry removed
from its place with no flag set, and a sender that is not in the stack refused ABSENT. -/
def Obligations.YieldTable : Prop :=
  ∀ (o : Origin) (r tag : Nat) (cp : ControlPoint) (s : State), Ready o r .operator s →
    let u := taken o r 0x21 tag s
    let out := fun b t => exec (.yield o tag cp) s = .next (answer r 0x21 tag b t)
    (cpInRange cp = false → out (.refused .range) u) ∧
    (cpInRange cp = true → stackOf s cp = none → out (.refused .absent) u) ∧
    ∀ st, cpInRange cp = true → stackOf s cp = some st →
      (holderOf st = some r → out (.done .plain) (setFlag .grants (setStack cp st.dropLast u))) ∧
      (holderOf st ≠ some r → r ∈ st → out (.done .plain) (setStack cp (st.filter (· != r)) u)) ∧
      (r ∉ st → out (.refused .absent) u)

/-- R95 for every request that needs a holder: a console with the rights for it is refused UNHELD where the stack of the point is empty
and HELD where another requester is at its top, and no record changes. -/
def Obligations.HolderChecked : Prop :=
  ∀ (i : Instr) (o : Origin) (r : Nat) (cp : ControlPoint) (st : List Nat) (s : State), senderOf i = some o →
    Ready o r (leastRights i) s → r ≠ 0 → fieldsFit i = true → checkedPoint s i = some cp → stackOf s cp = some st →
    (st = [] → exec i s = .next (answer r (requestCode i) (requestTag i) (.refused .unheld)
      (taken o r (requestCode i) (requestTag i) s))) ∧
    ∀ h, st.getLast? = some h → h ≠ r →
      exec i s = .next (answer r (requestCode i) (requestTag i) (.refused .held) (taken o r (requestCode i) (requestTag i) s))

/-- The trigger requests (R101 to R106). ENROL from the line computer: FULL, RANGE, and the record with the lowest free id, phase and
sequence 0, the angle reduced. AMEND from every sender that may send it: ABSENT, refused whole, or the amended record; a shaft by itself moves it to that
shaft's list, its camera (port, station or both; that one named alone keeps the other is the model's choice, notes/assumptions/36.md) keeps its shaft, each refused
RANGE out of its range; an angle by
itself keeps phase, sequence and flag, a divider by itself sets the phase to 0 or is refused RANGE. RETIRE from the line computer: ABSENT, IN_USE, or the
record and its place gone. A record that is written stands once in the list of its shaft, the others in their order. -/
def Obligations.TriggerRequests : Prop :=
  (∀ (tag : Nat) (f : TriggerEnrol) (s : State), Ready .line 0 .line s →
    let u := taken .line 0 0x02 tag s
    let out := fun b t => exec (.enrolTrigger .line tag f) s = .next (answer 0 0x02 tag b t)
    ((∀ y, y < 48 → (s.trigger y).isSome = true) → out (.refused .full) u) ∧
    ∀ g, g < 48 → s.trigger g = none → (∀ y, y < g → (s.trigger y).isSome = true) →
      ((3 < f.shaft ∨ 5 < f.port ∨ 15 < f.station ∨ f.divider = 0 ∨ 64 < f.divider) → out (.refused .range) u) ∧
      ∀ (sh : ShaftId) (p : PortId), f.shaft = sh.val → f.port = p.val → f.station ≤ 15 → 1 ≤ f.divider → f.divider ≤ 64 →
        ∃ l, ListedOnce g sh s.triggerLists l ∧
          out (if f.angle < 1048576 then .done (.newId g) else .noted (.newId g))
            { u with
              triggerLists := l
              triggers := tblSet s.triggers g { shaft := sh, port := p, station := f.station, angle := BitVec.ofNat 20 f.angle, divider := f.divider, phase := 0, seq := 0, enabled := f.enabled } }) ∧
  (∀ (o : Origin) (r tag g : Nat) (f : TriggerFields) (s : State), Ready o r (leastRights (.amendTrigger o tag g f)) s →
    fieldsFit (.amendTrigger o tag g f) = true →
    let u := taken o r 0x03 tag s
    let out := fun b t => exec (.amendTrigger o tag g f) s = .next (answer r 0x03 tag b t)
    (s.trigger g = none → out (.refused .absent) u) ∧
    ∀ a, s.trigger g = some a → holderCheck s r (.shaft a.shaft.val) = none →
      let wrote := fun (n : Trigger) (b : ReplyBody) =>
        ∃ l, ListedOnce g n.shaft s.triggerLists l ∧ out b { u with triggers := tblSet s.triggers g n, triggerLists := l }
      (∀ why, editTrigger f a = .error why → out (.refused why) u) ∧
      (∀ v, f = { shaft := none, port := none, station := none, angle := some v, divider := none, enabled := none } →
        wrote { a with angle := BitVec.ofNat 20 v } (plainReply (decide (1048576 ≤ v)))) ∧
      (∀ v, 1 ≤ v → v ≤ 64 → f = { shaft := none, port := none, station := none, angle := none, divider := some v, enabled := none } →
        wrote { a with divider := v, phase := 0 } (.done .plain)) ∧
      (∀ v, (v = 0 ∨ 64 < v) → f = { shaft := none, port := none, station := none, angle := none, divider := some v, enabled := none } →
        out (.refused .range) u) ∧
      (∀ v, f = { shaft := some v, port := none, station := none, angle := none, divider := none, enabled := none } →
        (3 < v → out (.refused .range) u) ∧ ∀ sh : ShaftId, v = sh.val → wrote { a with shaft := sh } (.done .plain)) ∧
      (∀ pn st : Option Nat, f = { shaft := none, port := pn, station := st, angle := none, divider := none, enabled := none } →
        (((∃ v, pn = some v ∧ 5 < v) ∨ ∃ v, st = some v ∧ 15 < v) → out (.refused .range) u) ∧
        ∀ p : PortId, pn.getD a.port.val = p.val → (∀ v, st = some v → v ≤ 15) →
          wrote { a with port := p, station := st.getD a.station } (.done .plain)) ∧
      ∀ b, f = { shaft := none, port := none, station := none, angle := none, divider := none, enabled := some b } →
        wrote { a with enabled := b } (.done .plain)) ∧
  ∀ (tag g : Nat) (s : State), Ready .line 0 .line s →
    let u := taken .line 0 0x04 tag s
    let out := fun b t => exec (.retireTrigger .line tag g) s = .next (answer 0 0x04 tag b t)
    (s.trigger g = none → out (.refused .absent) u) ∧
    ∀ a, s.trigger g = some a →
      ((∃ q ∈ s.views, q.2.trigger = g) → out (.refused .inUse) u) ∧
      ((∀ q ∈ s.views, q.2.trigger ≠ g) →
        ∃ l, (∀ i : ShaftId, l[i.val] = s.triggerLists[i.val].filter (· != g)) ∧
          out (.done .plain) { u with triggers := tblErase s.triggers g, triggerLists := l })

/-- One trigger met in the walk of an advance (R29, R30, R107 to R109): left as it stands where it is disabled or its angle is outside the
window; otherwise its pass phase goes up, back to 0 at the divider, and at phase 0 it fires: its sequence goes up and its STROBE frame
joins its port's queue where the port is UP with fewer than 8 waiting, and is lost otherwise. The walk of an advance holds the triggers of the
shaft in the order in which the advance meets them, from the angle before it on and round; a cycle event passes each of them that the
advance examines, in that order, none while the hub is FAILED (R107, R111). -/
def Obligations.TriggerPassed : Prop :=
  (∀ (sh : ShaftId) (adv : Advance) (g : Nat) (a : Trigger) (s : State), s.badRecs = [] → s.trigger g = some a → 1 ≤ adv.delta →
    adv.delta ≤ 32768 →
    let k := (a.angle.toNat + (1048576 - adv.before.toNat)) % 1048576
    let inside := 1 ≤ k ∧ (k : Int) ≤ adv.delta
    let next := { a with phase := if a.divider ≤ a.phase + 1 then 0 else a.phase + 1 }
    let frame : StrobeFrame :=
      { station := a.station, trigger := g, seq := a.seq, delay := min 255 (256 * k / adv.delta.toNat),
        rep := if 1048576 ≤ adv.before.toNat + k then adv.repAfter else adv.repBefore, cycle := (s.shaft sh).cycle }
    ((a.enabled = false ∨ ¬ inside) → passTrigger sh adv g s = .on s) ∧
    (a.enabled = true → inside → a.phase ≠ 0 → passTrigger sh adv g s = .on { s with triggers := tblSet s.triggers g next }) ∧
    (a.enabled = true → inside → a.phase = 0 →
      ((s.port a.port).state = .up → (s.port a.port).strobeQ.length < 8 →
        passTrigger sh adv g s = .on { (s.modPort a.port (fun q => { q with strobeQ := q.strobeQ ++ [frame] })) with
          triggers := tblSet s.triggers g { next with seq := a.seq + 1 } }) ∧
      (((s.port a.port).state ≠ .up ∨ 8 ≤ (s.port a.port).strobeQ.length) →
        passTrigger sh adv g s = .on { s with triggers := tblSet s.triggers g { next with seq := a.seq + 1 } }))) ∧
  (∀ (sh : ShaftId) (before : Angle) (s : State), TriggersOk s →
    let steps := fun (c : Trigger) => if countsPast c before = 0 then 1048576 else countsPast c before
    (∀ g, g ∈ walkOf s sh before ↔ ∃ c, s.trigger g = some c ∧ c.shaft = sh) ∧
    (walkOf s sh before).Pairwise (fun g h => ∀ c e, s.trigger g = some c → s.trigger h = some e →
      steps c < steps e ∨ (steps c = steps e ∧ g < h))) ∧
  (∀ (sh : ShaftId) (s : State), Settled s → TablesOk s → TriggersOk s → SpeedsOk s →
    let adv := masterAdvance { s.shaft sh with v := speedStep (s.shaft sh) }
    ∃ t, exec (.cycleEvent sh) s = .next t ∧ t.triggerLists = s.triggerLists ∧
      (∀ g, t.trigger g = (s.trigger g).map (fun c => if c.shaft = sh ∧ examined adv c = true then passedTrigger c else c)) ∧
      ∀ p, (t.port p).strobeQ = (if (s.port p).state = .up then (s.port p).strobeQ ++
        (offeredStrobes s adv ((s.shaft sh).cycle + 1) p (walkOf s sh adv.before)).take (8 - (s.port p).strobeQ.length)
        else (s.port p).strobeQ)) ∧
  ∀ (sh : ShaftId) (s : State), s.resetPin = false → s.failed = true →
    ∃ t, exec (.cycleEvent sh) s = .next t ∧ t.triggers = s.triggers ∧ ∀ p, (t.port p).strobeQ = (s.port p).strobeQ

/-- The view requests, for every sender (R115, R116, R117). ENROL: RIGHTS for an owner that is another console, FULL, RANGE, ABSENT, and the record with
the lowest free id, unthinned, owned by the console that sends it or that the line computer names. AMEND: ABSENT, RIGHTS for another
owner's view; RANGE where it names the owner; a window by itself keeps the thin fields; a trigger by itself clears them, or is refused RANGE or ABSENT; a state by itself clears them where a PAUSED view becomes ACTIVE and is NOTED
where the view holds it already (notes/assumptions/20.md). RETIRE: ABSENT, RIGHTS, or the record gone. Nothing else changes. -/
def Obligations.ViewRequests : Prop :=
  (∀ (o : Origin) (r tag : Nat) (f : ViewEnrol) (s : State), Ready o r .viewer s → fieldsFit (.enrolView o tag f) = true →
    let u := taken o r 0x02 tag s
    let out := fun b t => exec (.enrolView o tag f) s = .next (answer r 0x02 tag b t)
    (∀ k, r ≠ 0 → f.owner = some k → k ≠ r → out (.refused .rights) u) ∧
    ∀ k, (r = 0 ∧ f.owner = some k ∨ k = r ∧ r ≠ 0 ∧ (f.owner = none ∨ f.owner = some r)) →
      ((∀ y, y < 24 → (s.view y).isSome = true) → out (.refused .full) u) ∧
      (∀ v, v < 24 → s.view v = none →
        (47 < f.trigger ∨ 255 < f.firstTile ∨ 255 < f.lastTile ∨ k = 0 ∨ 8 < k ∨ f.lastTile < f.firstTile) → out (.refused .range) u) ∧
      ∀ v, v < 24 → s.view v = none → (∀ y, y < v → (s.view y).isSome = true) → f.trigger ≤ 47 → f.firstTile ≤ f.lastTile →
        f.lastTile ≤ 255 → 1 ≤ k → k ≤ 8 →
        (((s.trigger f.trigger).isNone = true ∨ (s.console k).isNone = true) → out (.refused .absent) u) ∧
        ((s.trigger f.trigger).isSome = true → (s.console k).isSome = true →
          out (.done (.newId v)) { u with views := tblSet s.views v { owner := k, trigger := f.trigger, firstTile := f.firstTile, lastTile := f.lastTile, state := f.state, thin := 0, lastThin := none } })) ∧
  (∀ (o : Origin) (r tag v : Nat) (f : ViewFields) (s : State), Ready o r .viewer s → fieldsFit (.amendView o tag v f) = true →
    let u := taken o r 0x03 tag s
    let out := fun b t => exec (.amendView o tag v f) s = .next (answer r 0x03 tag b t)
    (s.view v = none → out (.refused .absent) u) ∧
    ∀ a, s.view v = some a →
      (r ≠ 0 → a.owner ≠ r → out (.refused .rights) u) ∧
      ((r = 0 ∨ a.owner = r) → f.owner.isSome = true → out (.refused .range) u) ∧
      ((r = 0 ∨ a.owner = r) → ∀ g, f = { owner := none, trigger := some g, firstTile := none, lastTile := none, state := none } →
        (47 < g → out (.refused .range) u) ∧
        (g ≤ 47 → a.firstTile ≤ a.lastTile → a.lastTile ≤ 255 →
          (s.trigger g = none → out (.refused .absent) u) ∧
          ((s.trigger g).isSome = true →
            out (.done .plain) { u with views := tblSet s.views v { a with trigger := g, thin := 0, lastThin := none } }))) ∧
      ((r = 0 ∨ a.owner = r) → a.trigger ≤ 47 →
        (∀ l h, f = { owner := none, trigger := none, firstTile := some l, lastTile := some h, state := none } →
          ((255 < l ∨ 255 < h ∨ h < l) → out (.refused .range) u) ∧
          (l ≤ h → h ≤ 255 →
            out (.done .plain) { u with views := tblSet s.views v { a with firstTile := l, lastTile := h } })) ∧
        ∀ st, f = { owner := none, trigger := none, firstTile := none, lastTile := none, state := some st } →
          a.firstTile ≤ a.lastTile → a.lastTile ≤ 255 →
          (a.state = .paused → st = .active →
            out (.done .plain) { u with views := tblSet s.views v { a with state := .active, thin := 0, lastThin := none } }) ∧
          (¬ (a.state = .paused ∧ st = .active) →
            out (plainReply (decide (st = a.state))) { u with views := tblSet s.views v { a with state := st } }))) ∧
  ∀ (o : Origin) (r tag v : Nat) (s : State), Ready o r .viewer s →
    let u := taken o r 0x04 tag s
    let out := fun b t => exec (.retireView o tag v) s = .next (answer r 0x04 tag b t)
    (s.view v = none → out (.refused .absent) u) ∧
    ∀ a, s.view v = some a →
      (r ≠ 0 → a.owner ≠ r → out (.refused .rights) u) ∧
      ((r = 0 ∨ a.owner = r) → out (.done .plain) { u with views := tblErase s.views v })

/-- TILE from a station of an UP port (R119, R120, R121, R130): discarded from a station that is no camera station, while FAILED, for a
payload that is not 1,024 bytes and for a trigger that is not enrolled, and dropped where no view matches. Otherwise every segment and
every view is as R120 and R121 say: a PRESENT owner of a matching view with room takes one copy at its tail, a full one none, and the
matching views of an owner that was full, or that stands at or above its high mark after the store, are raised. -/
def Obligations.TileTaken : Prop :=
  ∀ (p : PortId) (st g : Nat) (seq : Count16) (ix : Nat) (last : Bool) (image : List Byte) (s : State), s.resetPin = false →
    (s.failed = true ∨ s.badRecs = []) → (s.port p).state = .up → st < 16 →
    let u := arrived (.console p st) s
    let tile : Tile := { trigger := g, seq, index := ix, last, payload := image }
    (((∀ q ∈ s.triggers, ¬ (q.2.port = p ∧ q.2.station = st)) ∨ s.failed = true ∨ image.length ≠ 1024 ∨ s.trigger g = none) →
      exec (.tile p st g seq ix last image) s = .next u) ∧
    ((∃ q ∈ s.triggers, q.2.port = p ∧ q.2.station = st) → s.failed = false → image.length = 1024 → (s.trigger g).isSome = true →
      TablesOk s →
      ∃ t, exec (.tile p st g seq ix last image) s = .next t ∧
        { t with consoles := u.consoles, views := u.views } = u ∧
        (∀ k c, u.console k = some c →
          ((¬ (∃ v w, s.view v = some w ∧ w.owner = k ∧ Matches w g seq ix) ∨ c.present = false ∨ 32 ≤ c.slots.length) →
            t.console k = some c) ∧
          ((∃ v w, s.view v = some w ∧ w.owner = k ∧ Matches w g seq ix) → c.present = true → c.slots.length < 32 →
            t.console k = some { c with slots := c.slots ++ [tile] })) ∧
        ∀ v w, s.view v = some w →
          let raised := Matches w g seq ix ∧ ∃ c, u.console w.owner = some c ∧ c.present = true ∧
            (32 ≤ c.slots.length ∨ c.high ≤ c.slots.length + 1)
          (raised → t.view v = some (raisedView seq w)) ∧ (¬ raised → t.view v = some w))

/-- HOLD and GO from a station of an UP port, and HOLD_TIMER_EXPIRY (R124, R125, R126): a first HOLD sets held and starts the timer with
the hold limit, a second has no effect; GO clears held and stops the timer; a running timer that expires flushes the segment, clears
held, stops the timer and pauses the console's views; a frame from a station that is no console is discarded. Nothing else changes. That an
expiry of a timer that is stopped changes nothing is the model's choice (notes/assumptions/8.md). -/
def Obligations.HoldGoExpiry : Prop :=
  (∀ (p : PortId) (st : Nat) (s : State), s.resetPin = false → (s.failed = true ∨ s.badRecs = []) → (s.port p).state = .up →
    st < 16 →
    let u := arrived (.console p st) s
    (consoleAt s p st = none → exec (.hold p st) s = .next u ∧ exec (.go p st) s = .next u) ∧
    ∀ k c, consoleAt s p st = some k → u.console k = some c →
      (c.held = true → exec (.hold p st) s = .next u) ∧
      (c.held = false → exec (.hold p st) s = .next (u.setConsole k { c with held := true, holdTimer := some s.hub.holdLimit })) ∧
      (c.held = false → exec (.go p st) s = .next u) ∧
      (c.held = true → exec (.go p st) s = .next (u.setConsole k { c with held := false, holdTimer := none }))) ∧
  ∀ (k : Nat) (c : Console) (s : State), s.resetPin = false → (s.failed = true ∨ s.badRecs = []) → s.console k = some c →
    (c.holdTimer = none → exec (.holdTimerExpiry k) s = .next s) ∧
    (c.holdTimer ≠ none →
      ∃ t, exec (.holdTimerExpiry k) s = .next t ∧ t.console k = some { c with slots := [], held := false, holdTimer := none } ∧
        (∀ j, j ≠ k → t.console j = s.console j) ∧
        (∀ v w, s.view v = some w → t.view v = some (if w.owner = k then { w with state := .paused } else w)) ∧
        { t with consoles := s.consoles, views := s.views } = s)

/-! ### Watches, consoles, READ, STATUS, RESTART, the hub record (chapters 8, 9, 11) -/

/-- WATCH and UNWATCH, for every sender (R134, R135): the line computer is refused RIGHTS. For a console WATCH goes down the table of
R134, and a new entry stands in the sender's set with the others as they were, pending at the tail of its port's pending queue; UNWATCH
takes the entry out of the set and of that queue. Nothing else changes. -/
def Obligations.WatchRequests : Prop :=
  (∀ (tag x : Nat) (s : State), Ready .line 0 .viewer s →
    exec (.watch .line tag x) s = .next (answer 0 0x30 tag (.refused .rights) (taken .line 0 0x30 tag s)) ∧
    exec (.unwatch .line tag x) s = .next (answer 0 0x31 tag (.refused .rights) (taken .line 0 0x31 tag s))) ∧
  (∀ (p : PortId) (st r tag x : Nat) (c : Console) (s : State), Ready (.console p st) r .viewer s →
    let u := taken (.console p st) r 0x30 tag s
    let out := fun b t => exec (.watch (.console p st) tag x) s = .next (answer r 0x30 tag b t)
    u.console r = some c →
    (63 < x → out (.refused .range) u) ∧
    (x ≤ 63 → s.axis x = none → out (.refused .absent) u) ∧
    (x ≤ 63 → (s.axis x).isSome = true → (∃ w ∈ c.watches, w.axis = x) → out (.noted .plain) u) ∧
    (x ≤ 63 → (s.axis x).isSome = true → (∀ w ∈ c.watches, w.axis ≠ x) → 8 ≤ c.watches.length → out (.refused .full) u) ∧
    (x ≤ 63 → (s.axis x).isSome = true → (∀ w ∈ c.watches, w.axis ≠ x) → c.watches.length < 8 →
      ∃ ws, ws.filter (fun w => w.axis != x) = c.watches ∧ ws.filter (fun w => w.axis == x) = [freshWatch x] ∧
        (c.watches.Pairwise (fun v w => v.axis < w.axis) → ws.Pairwise (fun v w => v.axis < w.axis)) ∧
        out (.done .plain) ((u.setConsole r { c with watches := ws }).modPort c.port
          (fun q => { q with valueQ := q.valueQ ++ [(r, x)] })))) ∧
  ∀ (p : PortId) (st r tag x : Nat) (c : Console) (s : State), Ready (.console p st) r .viewer s →
    let u := taken (.console p st) r 0x31 tag s
    let out := fun b t => exec (.unwatch (.console p st) tag x) s = .next (answer r 0x31 tag b t)
    u.console r = some c →
    (63 < x → out (.refused .range) u) ∧
    (x ≤ 63 → (∀ w ∈ c.watches, w.axis ≠ x) → out (.refused .absent) u) ∧
    (x ≤ 63 → (∃ w ∈ c.watches, w.axis = x) →
      out (.done .plain) ((u.setConsole r { c with watches := c.watches.filter (fun w => w.axis != x) }).modPort c.port
        (fun q => { q with valueQ := q.valueQ.filter (· != (r, x)) })))

/-- The console requests from the line computer (R142, R143, R144). ENROL: FULL, RANGE, DUPLICATE, or an ABSENT console with the lowest free
number, the marks 24 and 8 where none are named, an empty segment and watch set. AMEND: ABSENT; rights and marks by themselves; a station by itself, refused RANGE above 15 and DUPLICATE where
another console has the address; a port by itself, refused DUPLICATE, or else STATE for a PRESENT console on a port that is not UP, and otherwise the console's waiting places moved to the
new port (notes/assumptions/21.md, that order of the refusals included). RETIRE: ABSENT, or as `Retired` says. -/
def Obligations.ConsoleRequests : Prop :=
  (∀ (tag : Nat) (f : ConsoleEnrol) (s : State), Ready .line 0 .line s →
    let u := taken .line 0 0x02 tag s
    let out := fun b t => exec (.enrolConsole .line tag f) s = .next (answer 0 0x02 tag b t)
    let high := f.high.getD 24
    let low := f.low.getD 8
    ((∀ y, 1 ≤ y → y ≤ 8 → (s.console y).isSome = true) → out (.refused .full) u) ∧
    ∀ k, 1 ≤ k → k ≤ 8 → s.console k = none → (∀ y, 1 ≤ y → y < k → (s.console y).isSome = true) →
      ((5 < f.port ∨ 15 < f.station ∨ f.rights = .line ∨ ¬ MarksFit high low) → out (.refused .range) u) ∧
      ∀ p : PortId, f.port = p.val → f.station ≤ 15 → f.rights ≠ .line → MarksFit high low →
        (AddressTaken s k p f.station → out (.refused .duplicate) u) ∧
        (¬ AddressTaken s k p f.station → out (.done (.newId k)) (u.setConsole k
          { port := p, station := f.station, rights := f.rights, present := false, high := high, low := low,
            flags := .clear, flight := none, slot := none, slots := [], held := false, holdTimer := none, watches := [] }))) ∧
  (∀ (tag k : Nat) (f : ConsoleFields) (s : State), Ready .line 0 .line s → fieldsFit (.amendConsole .line tag k f) = true →
    let u := taken .line 0 0x03 tag s
    let out := fun b t => exec (.amendConsole .line tag k f) s = .next (answer 0 0x03 tag b t)
    (s.console k = none → out (.refused .absent) u) ∧
    ∀ c, s.console k = some c → c.station ≤ 15 →
      (∀ rt h l, f = { noConsoleFields with rights := rt, high := h, low := l } →
        let n := { c with rights := rt.getD c.rights, high := h.getD c.high, low := l.getD c.low }
        ((n.rights = .line ∨ ¬ MarksFit n.high n.low) → out (.refused .range) u) ∧
        (n.rights ≠ .line → MarksFit n.high n.low → ¬ AddressTaken s k c.port c.station →
          out (.done .plain) (u.setConsole k n))) ∧
      (∀ n, f = { noConsoleFields with station := some n } → c.rights ≠ .line → MarksFit c.high c.low →
        (15 < n → out (.refused .range) u) ∧
        (n ≤ 15 → AddressTaken s k c.port n → out (.refused .duplicate) u) ∧
        (n ≤ 15 → ¬ AddressTaken s k c.port n → out (.done .plain) (u.setConsole k { c with station := n }))) ∧
      ∀ p : PortId, f = { noConsoleFields with port := some p.val } → c.rights ≠ .line → MarksFit c.high c.low →
        (AddressTaken s k p c.station → out (.refused .duplicate) u) ∧
        (¬ AddressTaken s k p c.station → c.present = true → (s.port p).state ≠ .up → out (.refused .state) u) ∧
        (¬ AddressTaken s k p c.station → (c.present = false ∨ (s.port p).state = .up) →
          out (.done .plain) (movePlaces k c.port p (u.setConsole k { c with port := p })))) ∧
  (∀ (k : Nat) (old new : PortId) (s : State),
    let q := s.port old
    (old = new → movePlaces k old new s = s) ∧
    (old ≠ new →
      (movePlaces k old new s).port old = { q with replyQ := q.replyQ.filter (· != .console k), noticeQ := q.noticeQ.filter (· != k), valueQ := q.valueQ.filter (fun e => e.1 != k) } ∧
      (movePlaces k old new s).port new = { s.port new with
        replyQ := (s.port new).replyQ ++ (if .console k ∈ q.replyQ then [.console k] else [])
        noticeQ := (s.port new).noticeQ ++ (if k ∈ q.noticeQ then [k] else [])
        valueQ := (s.port new).valueQ ++ q.valueQ.filter (fun e => e.1 == k) } ∧
      (∀ p, p ≠ old → p ≠ new → (movePlaces k old new s).port p = s.port p) ∧
      { movePlaces k old new s with ports := s.ports } = s)) ∧
  ∀ (tag k : Nat) (s : State), Ready .line 0 .line s →
    (s.console k = none →
      exec (.retireConsole .line tag k) s = .next (answer 0 0x04 tag (.refused .absent) (taken .line 0 0x04 tag s))) ∧
    (TablesOk s → k ≠ 0 → (s.console k).isSome = true →
      ∃ t, exec (.retireConsole .line tag k) s = .next t ∧ Retired k s t ∧
        slotOf t 0 = some { kind := 0x04, tag, body := .done .plain })

/-- READ for every sender (R1, R33, R58, R87, R100, R114, R141, R160, R172, R182): DONE with the image of the record as it stands, ABSENT for
an id without a record, RANGE for a shaft, port or unit number out of range; a running hold timer is read as some value within its limit
(a free value, notes/assumptions/3.md; RANGE and ABSENT by notes/assumptions/16.md; the order of the axes in items 72h and 74h, as the record holds them: 38.md). Nothing else changes. Every image has its field codes in ascending order, none twice,
and its fields and the body of every reply are as R182 lays them out. -/
def Obligations.ReadImages : Prop :=
  (∀ (o : Origin) (r tag : Nat) (kind : RecKind) (id : Nat) (s : State), Ready o r .viewer s → fieldsFit (.read o tag kind id) = true →
    let u := taken o r 0x01 tag s
    let out := fun b t => exec (.read o tag kind id) s = .next (answer r 0x01 tag b t)
    let gives := fun items => out (.done (.image kind id items)) u
    (kind = .shaft → (3 < id → out (.refused .range) u) ∧
      ∀ sh : ShaftId, id = sh.val → gives (shaftImage (s.shaft sh) s.shaftStacks[sh.val])) ∧
    (kind = .port → (5 < id → out (.refused .range) u) ∧ ∀ p : PortId, id = p.val → gives (portImage u p)) ∧
    (kind = .unit → (15 < id → out (.refused .range) u) ∧ (id ≤ 15 → s.unit id = none → out (.refused .absent) u) ∧
      ∀ a, id ≤ 15 → s.unit id = some a → gives (unitImage s id a)) ∧
    (kind = .axis → (s.axis id = none → out (.refused .absent) u) ∧ ∀ a, s.axis id = some a → gives (axisImage a)) ∧
    (kind = .definition → (s.defn id = none → out (.refused .absent) u) ∧
      ∀ a, s.defn id = some a → gives (definitionImage s id a)) ∧
    (kind = .trigger → (s.trigger id = none → out (.refused .absent) u) ∧
      ∀ a, s.trigger id = some a → gives (triggerImage s id a)) ∧
    (kind = .view → (s.view id = none → out (.refused .absent) u) ∧ ∀ a, s.view id = some a → gives (viewImage a)) ∧
    (kind = .console → (u.console id = none → out (.refused .absent) u) ∧
      ∀ c, u.console id = some c →
        (c.holdTimer = none → gives (consoleImage c 0)) ∧
        ∀ limit, c.holdTimer = some limit → ∃ left, left ≤ limit ∧
          out (.done (.image kind id (consoleImage c left))) { u with freeCount := u.freeCount + 1 }) ∧
    (kind = .hub → gives
      [{ code := 0x40, value := leBytes 1 s.hub.holdLimit }, { code := 0x41, value := leBytes 2 s.hub.watchBand },
       { code := 0x42, value := leBytes 1 s.hub.grace }, { code := 0x43, value := [0] }])) ∧
  let rising := fun (items : List Item) => (items.map (·.code)).Pairwise (· < ·)
  (∀ a st, rising (shaftImage a st)) ∧ (∀ a, rising (axisImage a)) ∧ (∀ s n a, rising (unitImage s n a)) ∧
  (∀ s n a, rising (definitionImage s n a)) ∧ (∀ s n a, rising (triggerImage s n a)) ∧ (∀ a, rising (viewImage a)) ∧
  (∀ c n, rising (consoleImage c n)) ∧ (∀ s p, rising (portImage s p)) ∧ (∀ h, rising (hubImage h)) ∧
  (∀ a st, shaftImage a st = shaftLayout a st) ∧ (∀ a, axisImage a = axisLayout a) ∧
  (∀ s d a, definitionImage s d a = definitionLayout s d a) ∧ (∀ c n, consoleImage c n = consoleLayout c n) ∧
  (∀ s p, portImage s p = portLayout s p) ∧
  (∀ s n a, unitImage s n a = [num 0x10 1 a.shaft.val, bytesOf 0x5C a.stack, num 0x6C 1 (s.axes.filter (fun q => q.2.unit == n)).length]) ∧
  (∀ s n a, triggerImage s n a = [num 0x10 1 a.shaft.val, num 0x12 1 a.port.val, num 0x13 1 a.station, num 0x28 4 a.angle.toNat,
    num 0x29 1 a.divider, flag 0x2A a.enabled, num 0x78 1 a.phase, num 0x79 2 a.seq.toNat,
    num 0x7A 1 ((s.triggerLists[a.shaft.val].takeWhile (· != n)).length + 1)]) ∧
  (∀ a, viewImage a = [num 0x30 1 a.owner, num 0x31 1 a.trigger, num 0x32 1 a.firstTile, num 0x33 1 a.lastTile,
    flag 0x34 (decide (a.state = .active)), num 0x7C 1 a.thin] ++ opt a.lastThin (fun q => num 0x7D 2 q.toNat)) ∧
  ∀ r, replyBytes r = replyLayout r

/-- STATUS for every enrolled requester with nothing in flight, in both hub conditions (R157): DONE with the condition, the first-out entry,
the number of entries and the overflow mark, and the record counts, as they stand; no record changes. That D0 counts among the definitions is the model's choice (notes/assumptions/34.md). While FAILED every other request
of such a requester is answered FAILED (RETIRE CONSOLE too: notes/assumptions/35.md). -/
def Obligations.StatusAnswered : Prop :=
  (∀ (i : Instr) (o : Origin) (r : Nat) (s : State), senderOf i = some o → s.resetPin = false → s.failed = true → SendsAs o r s →
    flightOf s r = none → (rightsOf s r).isSome = true → requestCode i ≠ 0x38 → ∃ t, exec i s = .next t ∧
    slotOf t r = some { kind := requestCode i, tag := requestTag i, body := .refused .failed }) ∧
  ∀ (o : Origin) (r tag : Nat) (s : State), s.resetPin = false → (s.failed = true ∨ s.badRecs = []) → SendsAs o r s →
    flightOf s r = none → (rightsOf s r).isSome = true → TablesOk s →
    exec (.status o tag) s = .next (answer r 0x38 tag (.done (.status
      { condition := s.hub.condition
        entries := s.trips.length
        overflow := s.overflow
        firstOut := match s.trips with
          | [] => none
          | e :: _ => some { defn := e.defn, state := e.state, source := e.firstSource, ackedBy := e.ackedBy }
        axes := s.axes.length, units := s.units.length, definitions := s.defs.length, triggers := s.triggers.length
        views := s.views.length, consoles := s.consoles.length })) (taken o r 0x38 tag s))

/-- RESTART and AMEND HUB from the line computer (R158, R17, R57, R99, R131, R140, R84; R172). RESTART: MOVING where a shaft moves; otherwise each
shaft in STANDBY, or TRIPPED with the demand the re-entered trips call for, its inch gone and Vt 0; an inch ends CUT RESTART with the repeats
that remained, an awaited trim CUT RESTART with T − C; an axis that a re-entered HALT entry releases is RELEASED and its lag cause gone, another stands;
the grant stacks and segments are empty, with GRANTS where one was not; thin levels and last-sent values are back at their start; the watches pending of the
axes that the old or the new entries cover; the definitions whose cause
stands have new RAISED entries in ascending order, D0's last where a source has no definition. Where no lag cause went, that is all; otherwise the drops are reported (after
the whole event: the model's choice, notes/assumptions/22.md), the axes leave the present axes of the definitions they name, and the entry of a
definition that has none left is CLEARED, its cause absent. AMEND HUB: RANGE for the condition or a
value out of range, or its fields alone. -/
def Obligations.RestartAndHub : Prop :=
  (∀ (tag : Nat) (s : State), Ready .line 0 .line s →
    ((∃ sh : ShaftId, (s.shaft sh).v ≠ 0) →
      exec (.restart .line tag) s = .next (answer 0 0x3F tag (.refused .moving) (taken .line 0 0x3F tag s))) ∧
    ((∀ sh : ShaftId, (s.shaft sh).v = 0) → TablesOk s → CatchAllOk s →
      let rel := fun x a => ∃ d ∈ reentered s, ∃ df, s.defn d = some df ∧ ReleasedBy df (coverageOf s df) (sourceAxesOf s df) x a
      ∃ w t, exec (.restart .line tag) s = .next (answer 0 0x3F tag (.done .plain) t) ∧ drainReports w = .on t ∧
        (∀ sh : ShaftId, (w.shaft sh).demand = demandOf w sh ∧ w.shaft sh = { s.shaft sh with
          demand := demandOf w sh, vt := 0, inch := none, tripRate := none, state := if demandOf w sh = .none then .standby else .tripped }) ∧
        (∀ k f sh i, flightOf s k = some f → AwaitsInch s k sh i →
          slotOf t k = some { kind := f.kind, tag := f.tag, body := .cut .restart i.remaining }) ∧
        (∀ k f x a, flightOf s k = some f → AwaitsTrim s k x a →
          slotOf t k = some { kind := f.kind, tag := f.tag, body := .cut .restart (a.t - a.c) }) ∧
        (∀ x a, s.axis x = some a → (rel x a → w.axis x = some (releasedAxis { a with await := none })) ∧
          (¬ rel x a → w.axis x = some { a with await := none })) ∧
        (∀ n a, s.unit n = some a → w.unit n = some { a with stack := [] }) ∧ w.shaftStacks = Vector.replicate 4 [] ∧
        (∀ k c, s.console k = some c → ∃ d, w.console k = some d ∧ d.slots = [] ∧ d.held = c.held ∧ d.holdTimer = c.holdTimer ∧
          d.present = c.present ∧ d.rights = c.rights ∧ d.watches.map (·.axis) = c.watches.map (·.axis) ∧
          ∀ e ∈ d.watches, e.lastTrim = none ∧ e.lastLag = none ∧ (e.pending = true ↔ c.present = true ∧
            ∃ a, s.axis e.axis = some a ∧ ((∃ g, (g ∈ s.trips ∨ g ∈ w.trips) ∧ a.shaft ∈ g.coverage) ∨ (a.engaged = true ∧ rel e.axis a)))) ∧
        (∀ v w', s.view v = some w' → w.view v = some { w' with thin := 0, lastThin := none }) ∧
        w.trips.map (·.defn) = reentered s ++ (if undefinedSources s.unmatched w = [] then [] else [0]) ∧
        (∀ e ∈ w.trips, ∃ df, s.defn e.defn = some df ∧ e = raisedEntry e.defn (coverageOf s df) (sourceAxesOf s df) (firstSourceOf w df)) ∧
        w.unmatched = (undefinedSources s.unmatched w).take 16 ∧ w.overflow = decide (16 < (undefinedSources s.unmatched w).length) ∧
        ((s.trips ≠ [] ∨ w.trips ≠ []) → w.line.flags.trips = true) ∧
        w.line.flags.grants = (s.line.flags.grants || s.units.any (fun q => !q.2.stack.isEmpty) || s.shaftStacks.any (fun l => !l.isEmpty)) ∧
        (∀ p, portRest (w.port p) = portRest (s.port p)) ∧
        { w with shafts := s.shafts, axes := s.axes, units := s.units, shaftStacks := s.shaftStacks, consoles := s.consoles, views := s.views, defs := s.defs, trips := s.trips, unmatched := s.unmatched, overflow := s.overflow, reports := s.reports, line := s.line, ports := s.ports } = s ∧
        w.reports.Nodup ∧ (∀ g, g ∈ w.reports ↔ ∃ x a, s.axis x = some a ∧ a.engaged = true ∧ a.lagCause = true ∧ rel x a ∧
          g = lagReport x a false) ∧
        ((∀ x a, s.axis x = some a → rel x a → a.lagCause = false) → t = w) ∧
        TripFrame { w with reports := [] } t ∧ t.shafts = w.shafts ∧ t.axes = w.axes ∧ t.unmatched = w.unmatched ∧ t.overflow = w.overflow ∧
        t.trips.map (·.defn) = w.trips.map (·.defn) ∧
        (∀ e ∈ t.trips, e.ackedBy = none ∧ ∃ df, t.defn e.defn = some df ∧ e.state = (if df.cause then .raised else .cleared)) ∧
        (∀ df, s.defn 0 = some df → t.defn 0 = some { df with cause := !w.unmatched.isEmpty }) ∧
        ∀ d df, d ≠ 0 → s.defn d = some df →
          let left := df.presentAxes.filter (fun x => !w.reports.any (fun g => g.defn == d && g.axis == x))
          let gone := !df.presentAxes.isEmpty && left.isEmpty
          let held := df.held || (df.cause && df.src != .catchall && df.maskable && s.inhibitPin)
          t.defn d = some { df with
            presentAxes := left, cause := df.cause && !gone, held := held && !(gone && decide (d ∉ reentered s)) })) ∧
  ∀ (tag : Nat) (f : HubFields) (s : State), Ready .line 0 .line s → fieldsFit (.amendHub .line tag f) = true →
    let u := taken .line 0 0x03 tag s
    let out := fun b t => exec (.amendHub .line tag f) s = .next (answer 0 0x03 tag b t)
    let h := f.holdLimit.getD s.hub.holdLimit
    let b := f.watchBand.getD s.hub.watchBand
    let g := f.grace.getD s.hub.grace
    let fits := 1 ≤ h ∧ h ≤ 255 ∧ 1 ≤ b ∧ b ≤ 65535 ∧ g ≤ 15
    ((f.failed.isSome = true ∨ ¬ fits) → out (.refused .range) u) ∧
    (f.failed = none → fits → out (.done .plain) { u with hub := { s.hub with holdLimit := h, watchBand := b, grace := g } })

/-! ### Ports and reset (chapters 9 to 11) -/

/-- The SPI transactions (R155, R156, R183). The status byte holds reply ready, write taken and the five flags, and each transaction clears the
flags it shows. READ STATUS sends 00h after it. READ REPLY sends the slot and, from its second byte on, empties it and ends the flight unless
the reply was a BUSY refusal. WRITE REQUEST hands a whole request on where the slot was empty and drops it otherwise (what its row stands for: notes/assumptions/12.md).
The command byte says which it is, 02h WRITE REQUEST, 03h READ REPLY, and 01h or any other value READ STATUS.
Bytes beyond the reply are free values (notes/assumptions/4.md). -/
def Obligations.SpiTransactions : Prop :=
  (∀ s : State, (statusByte s).getLsbD 0 = s.line.slot.isSome ∧ (statusByte s).getLsbD 1 = s.line.writeTaken ∧
    (statusByte s).getLsbD 2 = s.line.flags.trips ∧ (statusByte s).getLsbD 3 = s.line.flags.shafts ∧
    (statusByte s).getLsbD 4 = s.line.flags.grants ∧ (statusByte s).getLsbD 5 = s.line.flags.hub ∧
    (statusByte s).getLsbD 6 = s.line.ports ∧ (statusByte s).getLsbD 7 = false) ∧
  (∀ s : State, s.resetPin = false →
    let shown := { s.line with flags := NoticeFlags.clear, ports := false }
    (∀ n, exec (.readStatus n) s = .next { s with spiOut := statusByte s :: List.replicate n 0, line := shown }) ∧
    (∀ n, ∃ tail : List Byte, tail.length = n - (slotBytes s).length ∧
      let out := statusByte s :: ((slotBytes s).take n ++ tail)
      (n < 2 → exec (.readReply n) s = .next { s with spiOut := out, freeCount := s.freeCount + tail.length, line := shown }) ∧
      (2 ≤ n → exec (.readReply n) s = .next { s with
        spiOut := out
        freeCount := s.freeCount + tail.length
        line := { shown with slot := none, flight := match s.line.slot with
          | some r => if r.body = .refused .busy then s.line.flight else none
          | none => s.line.flight } })) ∧
    (∀ bytes : List Byte, (s.line.slot.isSome = true ∨ bytes.length < 2 ∨ ofLe (bytes.take 2) < 2 ∨ bytes.length < ofLe (bytes.take 2) + 2) →
      exec (.writeRequest bytes) s = .next { s with
        spiOut := statusByte s :: List.replicate bytes.length 0, line := { shown with writeTaken := false } }) ∧
    ∀ (l0 l1 : Byte) (body extra : List Byte) (i : Instr), s.line.slot = none → ofLe [l0, l1] = body.length →
      decodeRequest .line body = some i →
      exec (.writeRequest (l0 :: l1 :: (body ++ extra))) s = exec i { s with
        spiOut := statusByte s :: List.replicate (body.length + extra.length + 2) 0
        line := { shown with writeTaken := true } }) ∧
  decodeTransaction [] = none ∧
  ∀ (command : Byte) (rest : List Byte),
    (command = 0x02 → decodeTransaction (command :: rest) = some (.writeRequest rest)) ∧
    (command = 0x03 → decodeTransaction (command :: rest) = some (.readReply rest.length)) ∧
    (command ≠ 0x02 → command ≠ 0x03 → decodeTransaction (command :: rest) = some (.readStatus rest.length))

/-- Reception on a port (R161, R162, R163, R164, R165). Any good frame is discarded while DARK, and counts up the good-run alone while ALIGNING;
the 16th in a row brings the port UP with PORTS, the first time with its link-seen mark set, and later with its link absent (what that moves: SourceAbsentTaken). IDLE, and every frame that no dispatch
takes, sets the bad-run of an UP port back and brings its console back. Bad frames and changes of light go by the table of R162; a port that
leaves UP leaves what `PortLost` says. What UNKNOWN_KIND_FRAME stands for is the model's choice (notes/assumptions/13.md), and so are that nothing is in
sending after a port loss (notes/assumptions/32.md) and that an arrival at UP empties the queues and leaves the slots and flags behind them (notes/assumptions/37.md). -/
def Obligations.Reception : Prop :=
  ∀ (p : PortId) (s : State), s.resetPin = false → (s.failed = true ∨ s.badRecs = []) →
    let q := s.port p
    let lit := { s with lightPins := s.lightPins.set p.val true }
    let unlit := { s with lightPins := s.lightPins.set p.val false }
    (∀ i, (framePort i = some p ∨ ∃ st, senderOf i = some (.console p st)) →
      (q.state = .dark → exec i s = .next s) ∧
      (q.state = .aligning → q.goodRun < 15 → exec i s = .next (s.setPort p { q with goodRun := q.goodRun + 1 })) ∧
      (q.state = .aligning → 15 ≤ q.goodRun → s.linkSeen[p.val] = false →
        exec i s = .next (setPorts { (s.setPort p { q with state := .up, goodRun := 0, badRun := 0, setpointQ := [], strobeQ := [], replyQ := [], noticeQ := [], valueQ := [] }) with
          linkSeen := s.linkSeen.set p.val true })) ∧
      (q.state = .aligning → 15 ≤ q.goodRun → s.linkSeen[p.val] = true → s.reports = [] → watcherOf s (.link p.val) = none →
        .link p.val ∉ s.unmatched →
        exec i s = .next (setPorts (s.setPort p { q with state := .up, goodRun := 0, badRun := 0, setpointQ := [], strobeQ := [], replyQ := [], noticeQ := [], valueQ := [] })))) ∧
    (∀ st, q.state = .up → exec (.idle p st) s = .next (arrived (.console p st) s)) ∧
    (∀ st kind payload, fittingFrame p st kind payload = none → (kind ≠ 0x08 ∨ 16 ≤ st ∨ payload.length < 2) →
      exec (.unknownKindFrame p st kind payload) s = exec (.idle p st) s) ∧
    (q.state = .dark → exec (.light p) s = .next (setPorts (lit.setPort p { q with state := .aligning, goodRun := 0, badRun := 0 })) ∧
      exec (.lossOfLight p) s = .next unlit ∧ exec (.badFrame p) s = .next s) ∧
    (q.state = .aligning → exec (.light p) s = .next lit ∧
      exec (.lossOfLight p) s = .next (setPorts (unlit.setPort p { q with state := .dark, goodRun := 0, badRun := 0 })) ∧
      exec (.badFrame p) s = .next (s.setPort p { q with goodRun := 0 })) ∧
    (q.state = .up → exec (.light p) s = .next lit ∧
      (q.badRun < 7 → exec (.badFrame p) s = .next (s.setPort p { q with badRun := q.badRun + 1 })) ∧
      (TablesOk s →
        (∃ t, exec (.lossOfLight p) s = .next t ∧ PortLost p .dark unlit t) ∧
        (7 ≤ q.badRun → ∃ t, exec (.badFrame p) s = .next t ∧ PortLost p .aligning s t)))

/-- The choice at TRANSMITTER_FREE (R166, R167, R127, R122, R138, R148, R149, R154): IDLE on a port that is not UP; otherwise SETPOINT, then the
tile where the grace applies, then STROBE, REPLY, NOTICE, VALUE, TILE, IDLE. The frame leaves its place, the grace count moves as R167 says (unchanged where a SETPOINT goes before a
tile that is due: notes/assumptions/31.md),
a reply ends the flight unless it is a BUSY refusal, a notice clears the flags, a value records what it sent, a tile departs from the
console whose turn it is and tests the low mark. Nothing else changes. -/
def Obligations.EgressChoice : Prop :=
  ∀ (p : PortId) (s : State), s.resetPin = false → (s.failed = true ∨ s.badRecs = []) → TablesOk s →
    let q := s.port p
    let out := fun t => exec (.transmitterFree p) s = .next t
    (q.state ≠ .up → out (s.setPort p { q with sending := some .idle, grace := 0 })) ∧
    ∀ waits : Bool, (waits = true ↔ ∃ k, TileWaits s p k) → q.state = .up →
      let g := if waits then min 15 (q.grace + 1) else 0
      let grace := s.hub.grace ≠ 0 ∧ s.hub.grace ≤ q.grace ∧ waits = true ∧ q.setpointQ = []
      let empty := q.setpointQ = [] ∧ q.strobeQ = [] ∧ q.replyQ = [] ∧ q.noticeQ = [] ∧ q.valueQ = []
      let due := s.hub.grace ≠ 0 ∧ s.hub.grace ≤ q.grace ∧ waits = true
      (∀ f rest, q.setpointQ = f :: rest → out (s.setPort p
        { q with setpointQ := rest, sending := some (.setpoint f), grace := if due then q.grace else g })) ∧
      (q.setpointQ = [] → ¬ grace →
        (∀ f rest, q.strobeQ = f :: rest → out (s.setPort p { q with strobeQ := rest, sending := some (.strobe f), grace := g })) ∧
        (∀ k rest c rep, q.strobeQ = [] → q.replyQ = .console k :: rest → s.console k = some c → c.slot = some rep →
          out ((s.setConsole k { c with slot := none, flight := if rep.body = .refused .busy then c.flight else none }).setPort p
            { q with replyQ := rest, sending := some (.reply c.station rep), grace := g })) ∧
        (∀ rest st rep, q.strobeQ = [] → q.replyQ = .stray :: rest → q.stray = some (st, rep) →
          out (s.setPort p { q with replyQ := rest, stray := none, sending := some (.reply st rep), grace := g })) ∧
        (∀ k rest c, q.strobeQ = [] → q.replyQ = [] → q.noticeQ = k :: rest → s.console k = some c →
          out ((s.setConsole k { c with flags := .clear }).setPort p
            { q with noticeQ := rest, sending := some (.notice c.station c.flags), grace := g })) ∧
        ∀ k x rest c a, q.strobeQ = [] → q.replyQ = [] → q.noticeQ = [] → q.valueQ = (k, x) :: rest → s.console k = some c → s.axis x = some a →
          ∀ halted : Bool, (halted = true ↔ HaltCovered s x a) →
          out ((s.setConsole k { c with watches := c.watches.map (fun w =>
              if w.axis = x then { w with pending := false, lastTrim := some a.c, lastLag := a.e } else w) }).setPort p
            { q with valueQ := rest, grace := g, sending := some (.value c.station
              { axis := x, cycle := (s.shaft a.shaft).cycle, engaged := a.engaged, t := a.t, c := a.c, e := a.e, lagCause := a.lagCause, lossCause := a.lossCause, demand := (s.shaft a.shaft).demand, haltCovered := halted }) })) ∧
      (empty → waits = false → out (s.setPort p { q with sending := some .idle, grace := 0 })) ∧
      ((grace ∨ empty) → ∀ k c tile rest, TurnOf s p k → s.console k = some c → c.slots = tile :: rest →
        ∃ t, out t ∧ t.port p = { q with sending := some (.tile c.station tile), grace := 0, lastServed := some k } ∧
          (∀ j, j ≠ p → t.port j = s.port j) ∧ t.console k = some { c with slots := rest } ∧ (∀ j, j ≠ k → t.console j = s.console j) ∧
          (∀ v w, s.view v = some w → t.view v = some
            (if w.owner = k ∧ rest.length ≤ c.low then loweredView ((((s.trigger w.trigger).map (·.seq)).getD 0) - 1) w else w)) ∧
          { t with ports := s.ports, consoles := s.consoles, views := s.views } = s)

/-- RESET (R177, R62, R68, R81, R156, R171). RESET_ASSERTED in any state leaves every record at its value after pin reset, STOPCHAIN open and ATTN
released; until its release no event is taken and the pins alone are followed (the model's choice, notes/assumptions/23.md). RESET_RELEASED
while RESET is released changes nothing (the model's choice, notes/assumptions/30.md); at the end of RESET it closes STOPCHAIN, sets HUB,
starts the timers, puts each line at its trip level into the unmatched-source set in line order, and starts each lit port ALIGNING (the order of
the parts: notes/assumptions/23.md; when a port begins IDLE: 32.md). -/
def Obligations.ResetTaken : Prop :=
  (∀ s : State, ∃ t, exec .resetAsserted s = .next t ∧ t.resetPin = true ∧ t.stopchainOpen = true ∧ t.attn = false ∧ AfterReset t ∧
    t.tripPins = s.tripPins ∧ t.inhibitPin = s.inhibitPin ∧ t.lightPins = s.lightPins) ∧
  (∀ s : State, s.resetPin = true → (∀ i, pinEvent i = false → exec i s = .next s) ∧
    (∀ n b, exec (.tripLineChange n b) s = .next { s with tripPins := s.tripPins.set n.val b }) ∧
    exec .inhibitAsserted s = .next { s with inhibitPin := true } ∧ exec .inhibitReleased s = .next { s with inhibitPin := false } ∧
    ∀ p : PortId, exec (.light p) s = .next { s with lightPins := s.lightPins.set p.val true } ∧
      exec (.lossOfLight p) s = .next { s with lightPins := s.lightPins.set p.val false }) ∧
  (∀ s : State, s.resetPin = false → exec .resetReleased s = .next s) ∧
  ∀ s : State, s.resetPin = true → AfterReset s → s.reports = [] →
    let high := ((List.finRange 8).filter (fun n => s.tripPins[n.val])).map (fun n => Source.line n.val)
    ∃ t, exec .resetReleased s = .next t ∧ t.resetPin = false ∧ t.stopchainOpen = false ∧ t.attn = true ∧ t.line.flags.hub = true ∧
      t.timers = Vector.replicate 4 1000 ∧ t.unmatched = high ∧
      (high = [] → t.trips = [] ∧ ∀ i : ShaftId, t.shaft i = s.shaft i) ∧
      (∀ first, high.head? = some first → t.trips = [raisedEntry 0 [0, 1, 2, 3] [] first] ∧
        ∀ i : ShaftId, (t.shaft i).state = .tripped ∧ (t.shaft i).demand = .quick) ∧
      ∀ p : PortId, (t.port p).state = (if s.lightPins[p.val] then .aligning else .dark) ∧
        (s.lightPins[p.val] = true → (t.port p).sending = some .idle ∧ t.line.ports = true) ∧
        { t with resetPin := s.resetPin, timers := s.timers, shafts := s.shafts, defs := s.defs, trips := s.trips, unmatched := s.unmatched, ports := s.ports, line := s.line } = s

/-- The state after pin reset has its values and every invariant that these statements name; that no command waits and what the pins show is the
model's choice (notes/assumptions/1.md, 2.md). -/
def Obligations.ResetHasInvariants : Prop :=
  AfterReset State.reset ∧ State.reset.resetPin = false ∧ State.reset.line.flags.hub = true ∧ State.reset.pending = [] ∧
  Settled State.reset ∧ SpeedsOk State.reset ∧ AxesOk State.reset ∧ TablesOk State.reset ∧ DemandsOk State.reset ∧
  GrantsOk State.reset ∧ TriggersOk State.reset ∧ RoomOk State.reset ∧ CatchAllOk State.reset

/-! ### Notices, marks, replies, presence (chapters 8 and 9) -/

/-- Notice flags and watch marks (R153, R154, R136, R137). A flag that is set is set for the line computer and every enrolled console, and each
PRESENT console without a NOTICE entry gets one at the tail of its port's class, in ascending number. An event on an axis makes the entries
for it that pass the test pending, those of PRESENT consoles that are not pending, at the tails of their ports' pending queues; one event that concerns several axes, as those whose shaft a trip entry
covers, does so in ascending console number and then ascending axis id. That the state of a PRESENT console's port is not asked is the model's
choice (notes/assumptions/39.md). -/
def Obligations.NoticesAndMarks : Prop :=
  ∀ s : State, TablesOk s →
    (∀ f : Flag,
      let t := setFlag f s
      t.line = { s.line with flags := s.line.flags.put f } ∧
      (∀ k, t.console k = (s.console k).map (fun c => { c with flags := c.flags.put f })) ∧
      (∀ p : PortId, t.port p = { s.port p with noticeQ := (s.port p).noticeQ ++
        (tblFind (fun c => c.port = p && c.present) s.consoles).filter (fun k => !(s.port p).noticeQ.contains k) }) ∧
      { t with line := s.line, consoles := s.consoles, ports := s.ports } = s) ∧
    (∀ (xs : List Nat),
      let t := markAxes xs s
      let due := fun (c : Console) (x : Nat) => c.present && c.watches.any (fun w => w.axis == x && !w.pending)
      xs.Nodup →
      (∀ k, t.console k = (s.console k).map (fun c => if c.present then { c with
        watches := c.watches.map (fun w => if w.axis ∈ xs then { w with pending := true } else w) } else c)) ∧
      (∀ p : PortId, t.port p = { s.port p with valueQ := (s.port p).valueQ ++
        (s.consoles.filter (fun q => q.2.port = p)).flatMap (fun q => (xs.filter (due q.2)).map (fun x => (q.1, x))) }) ∧
      { t with consoles := s.consoles, ports := s.ports } = s) ∧
    (∀ cov, ∃ xs, markCovered cov s = markAxes xs s ∧ xs.Pairwise (· < ·) ∧
      ∀ x, x ∈ xs ↔ ∃ a, s.axis x = some a ∧ a.shaft ∈ cov) ∧
    ∀ (x : Nat) (test : Watch → Bool),
      let t := markWhere x test s
      let marked := fun (c : Console) => c.present && c.watches.any (fun w => w.axis == x && !w.pending && test w)
      (∀ k, t.console k = (s.console k).map (fun c => if marked c then { c with
        watches := c.watches.map (fun w => if w.axis = x then { w with pending := true } else w) } else c)) ∧
      (∀ p : PortId, t.port p = { s.port p with valueQ := (s.port p).valueQ ++
        (tblFind (fun c => c.port = p && marked c) s.consoles).map (fun k => (k, x)) }) ∧
      { t with consoles := s.consoles, ports := s.ports } = s

/-- Replies and presence (R145, R139, R149). A reply to a console stands in its slot and once, at the tail, in its port's REPLY class, whatever the
port's state (the model's choice, notes/assumptions/39.md); a BUSY refusal
is lost where another reply waits. The frame of an ABSENT console makes it PRESENT with its four flags set, one NOTICE entry, its watch
entries pending in ascending axis id, and PORTS; a PRESENT console's frame sets the bad-run back alone. -/
def Obligations.RepliesAndPresence : Prop :=
  (∀ (k : Nat) (c : Console) (rep : Reply) (kind tag : Nat) (s : State), k ≠ 0 → s.console k = some c →
    let placed := fun (r : Reply) => (s.setConsole k { c with slot := some r }).modPort c.port
      (fun q => { q with replyQ := q.replyQ.filter (· != .console k) ++ [.console k] })
    putReply k rep s = placed rep ∧
    ((c.slot = none ∨ ∃ old, c.slot = some old ∧ old.body = .refused .busy) →
      placeBusy k kind tag s = placed { kind, tag, body := .refused .busy }) ∧
    (∀ old, c.slot = some old → old.body ≠ .refused .busy → placeBusy k kind tag s = s)) ∧
  ∀ (p : PortId) (st k : Nat) (c : Console) (s : State), TablesOk s → consoleAt s p st = some k → s.console k = some c →
    let q := s.port p
    (c.present = true → arrived (.console p st) s = s.setPort p { q with badRun := 0 }) ∧
    (c.present = false → arrived (.console p st) s = setPorts ((s.setConsole k { c with
        present := true, flags := { trips := true, shafts := true, grants := true, hub := true }, watches := c.watches.map (fun w => { w with pending := true }) }).setPort p
      { q with
        badRun := 0
        noticeQ := if k ∈ q.noticeQ then q.noticeQ else q.noticeQ ++ [k]
        valueQ := q.valueQ ++ (c.watches.filter (fun w => !w.pending)).map (fun w => (k, w.axis)) }))

/-! ### Bytes (chapter 12) -/

/-- Byte order (R178): a field of n bytes holds its value modulo 256^n, least significant byte first; a signed field of 4 bytes is two's
complement; a set-or-clear field is 00h or 01h. -/
def Obligations.ByteOrder : Prop :=
  (∀ n v : Nat, (leBytes n v).length = n ∧ ofLe (leBytes n v) = v % 256 ^ n ∧
    ∀ i, i < n → (leBytes n v)[i]? = some (BitVec.ofNat 8 (v / 256 ^ i))) ∧
  (∀ (n : Nat) (v : Int), leSigned n v = leBytes n (v % (256 : Int) ^ n).toNat) ∧
  (∀ v : Int, -2147483648 ≤ v → v ≤ 2147483647 → signed32 (ofLe (leSigned 4 v)) = v) ∧
  boolByte false = 0x00 ∧ boolByte true = 0x01

/-- Every well-formed request is read back from its body (R181): no field item is dropped or changed. -/
def Obligations.RequestRoundTrip : Prop :=
  ∀ (i : Instr) (o : Origin) (body : List Byte), i.wf = true → senderOf i = some o → encodeRequest i = some body →
    decodeRequest o body = some i

/-- Frames as bytes (R161, R179, R181). Every well-formed frame of a station is read back from its bytes with its CRC: the frames of its own
commands, and the REQUEST frames that carry the request bodies. The frames the hub sends have the kind, station and payload R179 gives (the
station of IDLE: notes/assumptions/15.md), and every frame its header, payload length and CRC at their places. -/
def Obligations.FrameRoundTrip : Prop :=
  (∀ (i : Instr) (p : PortId) (bs : List Byte), i.wf = true → framePort i = some p → encodeStationFrame i = some bs →
    decodeFrame p bs = i) ∧
  (∀ (i : Instr) (p : PortId) (st : Nat) (body : List Byte), i.wf = true → senderOf i = some (.console p st) →
    encodeRequest i = some body → decodeFrame p (frameBytes 0x08 st body) = i) ∧
  (∀ f : OutFrame, outBytes f = frameBytes (frameLayout f).1 (frameLayout f).2.1 (frameLayout f).2.2) ∧
  ∀ (kind st : Nat) (payload : List Byte),
    let head := [BitVec.ofNat 8 kind, BitVec.ofNat 8 st, BitVec.ofNat 8 payload.length, BitVec.ofNat 8 (payload.length / 256)] ++ payload
    frameBytes kind st payload = head ++ leBytes 4 (crc32 head).toNat

/-! ### Invariants that every step keeps -/

/-- Every step keeps the speed bounds of every shaft (R4, R13): |V|, |Vt| and the inch limit within V_max, and V at 0 in STANDBY and TRIPPED. -/
def Obligations.SpeedsKept : Prop := ∀ s t : State, SpeedsOk s → step s = .next t → SpeedsOk t

/-- Every step keeps the setpoint law X = W + C of every ENGAGED axis and the ranges of its gear and trim fields and its unit (R22, R26, R31, R34). -/
def Obligations.AxesKept : Prop := ∀ s t : State, AxesOk s → step s = .next t → AxesOk t

/-- Every step keeps the tables in order, leaves no report of an axis under way, and makes no word of record memory bad (R61, R70, R73, R173). -/
def Obligations.TablesKept : Prop :=
  ∀ s t : State, TablesOk s → s.reports = [] → step s = .next t → TablesOk t ∧ t.reports = [] ∧ ∀ r ∈ t.badRecs, r ∈ s.badRecs

/-- Every step keeps, where the hub is NORMAL after it, the demand of each shaft the strongest its covering entries call for, and keeps a shaft with a demand in
TRIP_STOPPING or TRIPPED (R14, R74), so no request starts a shaft that a trip covers. -/
def Obligations.DemandsKept : Prop :=
  ∀ s t : State, TablesOk s → s.reports = [] → DemandsOk s → step s = .next t → DemandsOk t

/-- Every step keeps the grant stacks as R91 says: at most 4, none twice, each the line computer or an enrolled PRESENT console. -/
def Obligations.GrantsKept : Prop := ∀ s t : State, TablesOk s → GrantsOk s → step s = .next t → GrantsOk t

/-- Every step keeps the trigger lists in ascending order of angle and id, each holding exactly the triggers of its shaft (R101). -/
def Obligations.TriggersKept : Prop := ∀ s t : State, TablesOk s → TriggersOk s → step s = .next t → TriggersOk t

/-- Every step keeps segments, thin levels, STROBE queues and the unmatched-source set within their room (the other egress queues have no bound here), and D0 as it is (R58, R66, R67, R109,
R118, R121). -/
def Obligations.RoomKept : Prop :=
  ∀ s t : State, RoomOk s → CatchAllOk s → step s = .next t → RoomOk t ∧ CatchAllOk t

/-- FAILED ends only by pin reset (R176): every command but RESET_ASSERTED leaves a FAILED hub FAILED, its shafts TRIPPED at V = 0 and Vt = 0, and
its axes RELEASED. -/
def Obligations.FailedUntilReset : Prop :=
  ∀ (c : Instr) (s t : State), FailedOk s → c ≠ .resetAsserted → exec c s = .next t → FailedOk t
end

