-- ==== Sys2Proof/Laws/Tables.lean ====
section
/-! SUPPORT. Laws of the record tables: what a read gives after a write, and that ids stay strictly rising. -/
namespace Sys2Proof.Machine
open Sys2Proof

variable {α : Type}

@[simp] theorem tblGet_nil (k : Nat) : tblGet ([] : Tbl α) k = none := rfl

theorem tblGet_cons (j k : Nat) (w : α) (t : Tbl α) : tblGet ((j, w) :: t) k = if k = j then some w else tblGet t k := by
  unfold tblGet
  rw [List.lookup_cons]
  by_cases h : k = j
  · simp [h]
  · have hb : (k == j) = false := by simpa using h
    simp [h, hb]

/-- A read after a write: the record written at its own id, the old one at another. -/
theorem tblGet_tblSet (t : Tbl α) (k j : Nat) (v : α) : tblGet (tblSet t k v) j = if j = k then some v else tblGet t j := by
  induction t with
  | nil => simp [tblSet, tblGet_cons]
  | cons p t ih =>
    obtain ⟨i, w⟩ := p
    unfold tblSet
    split
    · simp [tblGet_cons]
    · split
      · subst_vars
        simp only [tblGet_cons]
        split <;> rfl
      · simp only [tblGet_cons, ih]
        by_cases h : j = i
        · subst h
          simp
          intro h'
          omega
        · simp [h]

@[simp] theorem tblGet_tblSet_self (t : Tbl α) (k : Nat) (v : α) : tblGet (tblSet t k v) k = some v := by
  simp [tblGet_tblSet]

theorem tblGet_tblSet_ne {k j : Nat} (h : j ≠ k) (t : Tbl α) (v : α) : tblGet (tblSet t k v) j = tblGet t j := by
  simp [tblGet_tblSet, h]

/-- A read after a record is taken out. -/
theorem tblGet_tblErase (t : Tbl α) (k j : Nat) : tblGet (tblErase t k) j = if j = k then none else tblGet t j := by
  induction t with
  | nil => simp [tblErase]
  | cons p t ih =>
    obtain ⟨i, w⟩ := p
    unfold tblErase at *
    rw [List.filter_cons]
    by_cases hi : i = k
    · subst hi
      simp only [bne_self_eq_false, Bool.false_eq_true, ↓reduceIte, tblGet_cons, ih]
      split <;> rfl
    · simp only [bne_iff_ne, ne_eq, hi, not_false_eq_true, ↓reduceIte, tblGet_cons, ih]
      by_cases hj : j = i
      · subst hj; simp [hi]
      · simp [hj]

/-- A read after every record is changed by its id and contents. -/
theorem tblGet_tblMap (f : Nat → α → α) (t : Tbl α) (k : Nat) : tblGet (tblMap f t) k = (tblGet t k).map (f k) := by
  induction t with
  | nil => simp [tblMap]
  | cons p t ih =>
    obtain ⟨i, w⟩ := p
    unfold tblMap at *
    simp only [List.map_cons, tblGet_cons, ih]
    by_cases h : k = i
    · subst h; simp
    · simp [h]

/-- Changing records keeps the ids. -/
@[simp] theorem tblIds_tblMap (f : Nat → α → α) (t : Tbl α) : tblIds (tblMap f t) = tblIds t := by
  simp [tblIds, tblMap, List.map_map, Function.comp_def]

theorem mem_tblSet {t : Tbl α} {k : Nat} {v : α} {q : Nat × α} (h : q ∈ tblSet t k v) : q = (k, v) ∨ q ∈ t := by
  induction t with
  | nil => simpa [tblSet] using h
  | cons p t ih =>
    obtain ⟨i, w⟩ := p
    unfold tblSet at h
    split at h
    · rcases List.mem_cons.1 h with h | h
      · exact .inl h
      · exact .inr h
    · split at h
      · rcases List.mem_cons.1 h with h | h
        · exact .inl h
        · exact .inr (List.mem_cons_of_mem _ h)
      · rcases List.mem_cons.1 h with h | h
        · exact .inr (by rw [h]; exact List.mem_cons_self ..)
        · rcases ih h with h | h
          · exact .inl h
          · exact .inr (List.mem_cons_of_mem _ h)

theorem tblGet_mem {t : Tbl α} {k : Nat} {v : α} (h : tblGet t k = some v) : (k, v) ∈ t := by
  induction t with
  | nil => simp at h
  | cons p t ih =>
    obtain ⟨i, w⟩ := p
    rw [tblGet_cons] at h
    split at h
    · subst_vars; cases h; exact List.mem_cons_self ..
    · exact List.mem_cons_of_mem _ (ih h)

/-- Ids of the records in a table stay strictly rising through a write. -/
theorem tblSet_sorted {t : Tbl α} (h : (tblIds t).Pairwise (· < ·)) (k : Nat) (v : α) :
    (tblIds (tblSet t k v)).Pairwise (· < ·) := by
  induction t with
  | nil => simp [tblSet, tblIds]
  | cons p t ih =>
    obtain ⟨i, w⟩ := p
    simp only [tblIds, List.map_cons, List.pairwise_cons] at h
    unfold tblSet
    split
    · simp only [tblIds, List.map_cons, List.pairwise_cons]
      refine ⟨?_, h⟩
      intro a ha
      rcases List.mem_cons.1 ha with ha | ha
      · omega
      · have := h.1 a ha; omega
    · split
      · subst_vars
        simpa [tblIds] using h
      · simp only [tblIds, List.map_cons, List.pairwise_cons]
        refine ⟨?_, ih h.2⟩
        intro a ha
        obtain ⟨q, hq, rfl⟩ := List.mem_map.1 ha
        rcases mem_tblSet hq with rfl | hq
        · simp; omega
        · exact h.1 _ (List.mem_map_of_mem hq)

/-- Ids stay strictly rising where records are taken out. -/
theorem filter_sorted {t : Tbl α} (h : (tblIds t).Pairwise (· < ·)) (f : Nat × α → Bool) :
    (tblIds (t.filter f)).Pairwise (· < ·) := by
  unfold tblIds at *
  rw [List.pairwise_map] at *
  exact h.filter f

theorem tblErase_sorted {t : Tbl α} (h : (tblIds t).Pairwise (· < ·)) (k : Nat) : (tblIds (tblErase t k)).Pairwise (· < ·) :=
  filter_sorted h _

end Sys2Proof.Machine
end

