-- ==== Sys2Proof/Laws/State.lean ====
section
/-! SUPPORT. One lemma per field per update of the state, and what reading a record gives after writing one. -/
namespace Sys2Proof.Machine
open Sys2Proof

/-! ### setShaft -/

@[simp] theorem State.setShaft_resetPin (s : State) (i : ShaftId) (v : Shaft) : (s.setShaft i v).resetPin = s.resetPin := rfl
@[simp] theorem State.setShaft_tripPins (s : State) (i : ShaftId) (v : Shaft) : (s.setShaft i v).tripPins = s.tripPins := rfl
@[simp] theorem State.setShaft_inhibitPin (s : State) (i : ShaftId) (v : Shaft) : (s.setShaft i v).inhibitPin = s.inhibitPin := rfl
@[simp] theorem State.setShaft_lightPins (s : State) (i : ShaftId) (v : Shaft) : (s.setShaft i v).lightPins = s.lightPins := rfl
@[simp] theorem State.setShaft_timers (s : State) (i : ShaftId) (v : Shaft) : (s.setShaft i v).timers = s.timers := rfl
@[simp] theorem State.setShaft_axes (s : State) (i : ShaftId) (v : Shaft) : (s.setShaft i v).axes = s.axes := rfl
@[simp] theorem State.setShaft_defs (s : State) (i : ShaftId) (v : Shaft) : (s.setShaft i v).defs = s.defs := rfl
@[simp] theorem State.setShaft_trips (s : State) (i : ShaftId) (v : Shaft) : (s.setShaft i v).trips = s.trips := rfl
@[simp] theorem State.setShaft_unmatched (s : State) (i : ShaftId) (v : Shaft) : (s.setShaft i v).unmatched = s.unmatched := rfl
@[simp] theorem State.setShaft_overflow (s : State) (i : ShaftId) (v : Shaft) : (s.setShaft i v).overflow = s.overflow := rfl
@[simp] theorem State.setShaft_linkSeen (s : State) (i : ShaftId) (v : Shaft) : (s.setShaft i v).linkSeen = s.linkSeen := rfl
@[simp] theorem State.setShaft_units (s : State) (i : ShaftId) (v : Shaft) : (s.setShaft i v).units = s.units := rfl
@[simp] theorem State.setShaft_shaftStacks (s : State) (i : ShaftId) (v : Shaft) : (s.setShaft i v).shaftStacks = s.shaftStacks := rfl
@[simp] theorem State.setShaft_triggers (s : State) (i : ShaftId) (v : Shaft) : (s.setShaft i v).triggers = s.triggers := rfl
@[simp] theorem State.setShaft_triggerLists (s : State) (i : ShaftId) (v : Shaft) : (s.setShaft i v).triggerLists = s.triggerLists := rfl
@[simp] theorem State.setShaft_views (s : State) (i : ShaftId) (v : Shaft) : (s.setShaft i v).views = s.views := rfl
@[simp] theorem State.setShaft_consoles (s : State) (i : ShaftId) (v : Shaft) : (s.setShaft i v).consoles = s.consoles := rfl
@[simp] theorem State.setShaft_line (s : State) (i : ShaftId) (v : Shaft) : (s.setShaft i v).line = s.line := rfl
@[simp] theorem State.setShaft_ports (s : State) (i : ShaftId) (v : Shaft) : (s.setShaft i v).ports = s.ports := rfl
@[simp] theorem State.setShaft_hub (s : State) (i : ShaftId) (v : Shaft) : (s.setShaft i v).hub = s.hub := rfl
@[simp] theorem State.setShaft_spiOut (s : State) (i : ShaftId) (v : Shaft) : (s.setShaft i v).spiOut = s.spiOut := rfl
@[simp] theorem State.setShaft_badRecs (s : State) (i : ShaftId) (v : Shaft) : (s.setShaft i v).badRecs = s.badRecs := rfl
@[simp] theorem State.setShaft_reports (s : State) (i : ShaftId) (v : Shaft) : (s.setShaft i v).reports = s.reports := rfl
@[simp] theorem State.setShaft_freeCount (s : State) (i : ShaftId) (v : Shaft) : (s.setShaft i v).freeCount = s.freeCount := rfl
@[simp] theorem State.setShaft_pending (s : State) (i : ShaftId) (v : Shaft) : (s.setShaft i v).pending = s.pending := rfl

/-! ### setPort -/

@[simp] theorem State.setPort_resetPin (s : State) (i : PortId) (v : Port) : (s.setPort i v).resetPin = s.resetPin := rfl
@[simp] theorem State.setPort_tripPins (s : State) (i : PortId) (v : Port) : (s.setPort i v).tripPins = s.tripPins := rfl
@[simp] theorem State.setPort_inhibitPin (s : State) (i : PortId) (v : Port) : (s.setPort i v).inhibitPin = s.inhibitPin := rfl
@[simp] theorem State.setPort_lightPins (s : State) (i : PortId) (v : Port) : (s.setPort i v).lightPins = s.lightPins := rfl
@[simp] theorem State.setPort_timers (s : State) (i : PortId) (v : Port) : (s.setPort i v).timers = s.timers := rfl
@[simp] theorem State.setPort_shafts (s : State) (i : PortId) (v : Port) : (s.setPort i v).shafts = s.shafts := rfl
@[simp] theorem State.setPort_axes (s : State) (i : PortId) (v : Port) : (s.setPort i v).axes = s.axes := rfl
@[simp] theorem State.setPort_defs (s : State) (i : PortId) (v : Port) : (s.setPort i v).defs = s.defs := rfl
@[simp] theorem State.setPort_trips (s : State) (i : PortId) (v : Port) : (s.setPort i v).trips = s.trips := rfl
@[simp] theorem State.setPort_unmatched (s : State) (i : PortId) (v : Port) : (s.setPort i v).unmatched = s.unmatched := rfl
@[simp] theorem State.setPort_overflow (s : State) (i : PortId) (v : Port) : (s.setPort i v).overflow = s.overflow := rfl
@[simp] theorem State.setPort_linkSeen (s : State) (i : PortId) (v : Port) : (s.setPort i v).linkSeen = s.linkSeen := rfl
@[simp] theorem State.setPort_units (s : State) (i : PortId) (v : Port) : (s.setPort i v).units = s.units := rfl
@[simp] theorem State.setPort_shaftStacks (s : State) (i : PortId) (v : Port) : (s.setPort i v).shaftStacks = s.shaftStacks := rfl
@[simp] theorem State.setPort_triggers (s : State) (i : PortId) (v : Port) : (s.setPort i v).triggers = s.triggers := rfl
@[simp] theorem State.setPort_triggerLists (s : State) (i : PortId) (v : Port) : (s.setPort i v).triggerLists = s.triggerLists := rfl
@[simp] theorem State.setPort_views (s : State) (i : PortId) (v : Port) : (s.setPort i v).views = s.views := rfl
@[simp] theorem State.setPort_consoles (s : State) (i : PortId) (v : Port) : (s.setPort i v).consoles = s.consoles := rfl
@[simp] theorem State.setPort_line (s : State) (i : PortId) (v : Port) : (s.setPort i v).line = s.line := rfl
@[simp] theorem State.setPort_hub (s : State) (i : PortId) (v : Port) : (s.setPort i v).hub = s.hub := rfl
@[simp] theorem State.setPort_spiOut (s : State) (i : PortId) (v : Port) : (s.setPort i v).spiOut = s.spiOut := rfl
@[simp] theorem State.setPort_badRecs (s : State) (i : PortId) (v : Port) : (s.setPort i v).badRecs = s.badRecs := rfl
@[simp] theorem State.setPort_reports (s : State) (i : PortId) (v : Port) : (s.setPort i v).reports = s.reports := rfl
@[simp] theorem State.setPort_freeCount (s : State) (i : PortId) (v : Port) : (s.setPort i v).freeCount = s.freeCount := rfl
@[simp] theorem State.setPort_pending (s : State) (i : PortId) (v : Port) : (s.setPort i v).pending = s.pending := rfl

/-! ### setAxis -/

@[simp] theorem State.setAxis_resetPin (s : State) (x : Nat) (v : Axis) : (s.setAxis x v).resetPin = s.resetPin := rfl
@[simp] theorem State.setAxis_tripPins (s : State) (x : Nat) (v : Axis) : (s.setAxis x v).tripPins = s.tripPins := rfl
@[simp] theorem State.setAxis_inhibitPin (s : State) (x : Nat) (v : Axis) : (s.setAxis x v).inhibitPin = s.inhibitPin := rfl
@[simp] theorem State.setAxis_lightPins (s : State) (x : Nat) (v : Axis) : (s.setAxis x v).lightPins = s.lightPins := rfl
@[simp] theorem State.setAxis_timers (s : State) (x : Nat) (v : Axis) : (s.setAxis x v).timers = s.timers := rfl
@[simp] theorem State.setAxis_shafts (s : State) (x : Nat) (v : Axis) : (s.setAxis x v).shafts = s.shafts := rfl
@[simp] theorem State.setAxis_defs (s : State) (x : Nat) (v : Axis) : (s.setAxis x v).defs = s.defs := rfl
@[simp] theorem State.setAxis_trips (s : State) (x : Nat) (v : Axis) : (s.setAxis x v).trips = s.trips := rfl
@[simp] theorem State.setAxis_unmatched (s : State) (x : Nat) (v : Axis) : (s.setAxis x v).unmatched = s.unmatched := rfl
@[simp] theorem State.setAxis_overflow (s : State) (x : Nat) (v : Axis) : (s.setAxis x v).overflow = s.overflow := rfl
@[simp] theorem State.setAxis_linkSeen (s : State) (x : Nat) (v : Axis) : (s.setAxis x v).linkSeen = s.linkSeen := rfl
@[simp] theorem State.setAxis_units (s : State) (x : Nat) (v : Axis) : (s.setAxis x v).units = s.units := rfl
@[simp] theorem State.setAxis_shaftStacks (s : State) (x : Nat) (v : Axis) : (s.setAxis x v).shaftStacks = s.shaftStacks := rfl
@[simp] theorem State.setAxis_triggers (s : State) (x : Nat) (v : Axis) : (s.setAxis x v).triggers = s.triggers := rfl
@[simp] theorem State.setAxis_triggerLists (s : State) (x : Nat) (v : Axis) : (s.setAxis x v).triggerLists = s.triggerLists := rfl
@[simp] theorem State.setAxis_views (s : State) (x : Nat) (v : Axis) : (s.setAxis x v).views = s.views := rfl
@[simp] theorem State.setAxis_consoles (s : State) (x : Nat) (v : Axis) : (s.setAxis x v).consoles = s.consoles := rfl
@[simp] theorem State.setAxis_line (s : State) (x : Nat) (v : Axis) : (s.setAxis x v).line = s.line := rfl
@[simp] theorem State.setAxis_ports (s : State) (x : Nat) (v : Axis) : (s.setAxis x v).ports = s.ports := rfl
@[simp] theorem State.setAxis_hub (s : State) (x : Nat) (v : Axis) : (s.setAxis x v).hub = s.hub := rfl
@[simp] theorem State.setAxis_spiOut (s : State) (x : Nat) (v : Axis) : (s.setAxis x v).spiOut = s.spiOut := rfl
@[simp] theorem State.setAxis_badRecs (s : State) (x : Nat) (v : Axis) : (s.setAxis x v).badRecs = s.badRecs := rfl
@[simp] theorem State.setAxis_reports (s : State) (x : Nat) (v : Axis) : (s.setAxis x v).reports = s.reports := rfl
@[simp] theorem State.setAxis_freeCount (s : State) (x : Nat) (v : Axis) : (s.setAxis x v).freeCount = s.freeCount := rfl
@[simp] theorem State.setAxis_pending (s : State) (x : Nat) (v : Axis) : (s.setAxis x v).pending = s.pending := rfl

/-! ### setDefn -/

@[simp] theorem State.setDefn_resetPin (s : State) (d : Nat) (v : Definition) : (s.setDefn d v).resetPin = s.resetPin := rfl
@[simp] theorem State.setDefn_tripPins (s : State) (d : Nat) (v : Definition) : (s.setDefn d v).tripPins = s.tripPins := rfl
@[simp] theorem State.setDefn_inhibitPin (s : State) (d : Nat) (v : Definition) : (s.setDefn d v).inhibitPin = s.inhibitPin := rfl
@[simp] theorem State.setDefn_lightPins (s : State) (d : Nat) (v : Definition) : (s.setDefn d v).lightPins = s.lightPins := rfl
@[simp] theorem State.setDefn_timers (s : State) (d : Nat) (v : Definition) : (s.setDefn d v).timers = s.timers := rfl
@[simp] theorem State.setDefn_shafts (s : State) (d : Nat) (v : Definition) : (s.setDefn d v).shafts = s.shafts := rfl
@[simp] theorem State.setDefn_axes (s : State) (d : Nat) (v : Definition) : (s.setDefn d v).axes = s.axes := rfl
@[simp] theorem State.setDefn_trips (s : State) (d : Nat) (v : Definition) : (s.setDefn d v).trips = s.trips := rfl
@[simp] theorem State.setDefn_unmatched (s : State) (d : Nat) (v : Definition) : (s.setDefn d v).unmatched = s.unmatched := rfl
@[simp] theorem State.setDefn_overflow (s : State) (d : Nat) (v : Definition) : (s.setDefn d v).overflow = s.overflow := rfl
@[simp] theorem State.setDefn_linkSeen (s : State) (d : Nat) (v : Definition) : (s.setDefn d v).linkSeen = s.linkSeen := rfl
@[simp] theorem State.setDefn_units (s : State) (d : Nat) (v : Definition) : (s.setDefn d v).units = s.units := rfl
@[simp] theorem State.setDefn_shaftStacks (s : State) (d : Nat) (v : Definition) : (s.setDefn d v).shaftStacks = s.shaftStacks := rfl
@[simp] theorem State.setDefn_triggers (s : State) (d : Nat) (v : Definition) : (s.setDefn d v).triggers = s.triggers := rfl
@[simp] theorem State.setDefn_triggerLists (s : State) (d : Nat) (v : Definition) : (s.setDefn d v).triggerLists = s.triggerLists := rfl
@[simp] theorem State.setDefn_views (s : State) (d : Nat) (v : Definition) : (s.setDefn d v).views = s.views := rfl
@[simp] theorem State.setDefn_consoles (s : State) (d : Nat) (v : Definition) : (s.setDefn d v).consoles = s.consoles := rfl
@[simp] theorem State.setDefn_line (s : State) (d : Nat) (v : Definition) : (s.setDefn d v).line = s.line := rfl
@[simp] theorem State.setDefn_ports (s : State) (d : Nat) (v : Definition) : (s.setDefn d v).ports = s.ports := rfl
@[simp] theorem State.setDefn_hub (s : State) (d : Nat) (v : Definition) : (s.setDefn d v).hub = s.hub := rfl
@[simp] theorem State.setDefn_spiOut (s : State) (d : Nat) (v : Definition) : (s.setDefn d v).spiOut = s.spiOut := rfl
@[simp] theorem State.setDefn_badRecs (s : State) (d : Nat) (v : Definition) : (s.setDefn d v).badRecs = s.badRecs := rfl
@[simp] theorem State.setDefn_reports (s : State) (d : Nat) (v : Definition) : (s.setDefn d v).reports = s.reports := rfl
@[simp] theorem State.setDefn_freeCount (s : State) (d : Nat) (v : Definition) : (s.setDefn d v).freeCount = s.freeCount := rfl
@[simp] theorem State.setDefn_pending (s : State) (d : Nat) (v : Definition) : (s.setDefn d v).pending = s.pending := rfl

/-! ### setConsole -/

@[simp] theorem State.setConsole_resetPin (s : State) (k : Nat) (v : Console) : (s.setConsole k v).resetPin = s.resetPin := rfl
@[simp] theorem State.setConsole_tripPins (s : State) (k : Nat) (v : Console) : (s.setConsole k v).tripPins = s.tripPins := rfl
@[simp] theorem State.setConsole_inhibitPin (s : State) (k : Nat) (v : Console) : (s.setConsole k v).inhibitPin = s.inhibitPin := rfl
@[simp] theorem State.setConsole_lightPins (s : State) (k : Nat) (v : Console) : (s.setConsole k v).lightPins = s.lightPins := rfl
@[simp] theorem State.setConsole_timers (s : State) (k : Nat) (v : Console) : (s.setConsole k v).timers = s.timers := rfl
@[simp] theorem State.setConsole_shafts (s : State) (k : Nat) (v : Console) : (s.setConsole k v).shafts = s.shafts := rfl
@[simp] theorem State.setConsole_axes (s : State) (k : Nat) (v : Console) : (s.setConsole k v).axes = s.axes := rfl
@[simp] theorem State.setConsole_defs (s : State) (k : Nat) (v : Console) : (s.setConsole k v).defs = s.defs := rfl
@[simp] theorem State.setConsole_trips (s : State) (k : Nat) (v : Console) : (s.setConsole k v).trips = s.trips := rfl
@[simp] theorem State.setConsole_unmatched (s : State) (k : Nat) (v : Console) : (s.setConsole k v).unmatched = s.unmatched := rfl
@[simp] theorem State.setConsole_overflow (s : State) (k : Nat) (v : Console) : (s.setConsole k v).overflow = s.overflow := rfl
@[simp] theorem State.setConsole_linkSeen (s : State) (k : Nat) (v : Console) : (s.setConsole k v).linkSeen = s.linkSeen := rfl
@[simp] theorem State.setConsole_units (s : State) (k : Nat) (v : Console) : (s.setConsole k v).units = s.units := rfl
@[simp] theorem State.setConsole_shaftStacks (s : State) (k : Nat) (v : Console) : (s.setConsole k v).shaftStacks = s.shaftStacks := rfl
@[simp] theorem State.setConsole_triggers (s : State) (k : Nat) (v : Console) : (s.setConsole k v).triggers = s.triggers := rfl
@[simp] theorem State.setConsole_triggerLists (s : State) (k : Nat) (v : Console) : (s.setConsole k v).triggerLists = s.triggerLists := rfl
@[simp] theorem State.setConsole_views (s : State) (k : Nat) (v : Console) : (s.setConsole k v).views = s.views := rfl
@[simp] theorem State.setConsole_line (s : State) (k : Nat) (v : Console) : (s.setConsole k v).line = s.line := rfl
@[simp] theorem State.setConsole_ports (s : State) (k : Nat) (v : Console) : (s.setConsole k v).ports = s.ports := rfl
@[simp] theorem State.setConsole_hub (s : State) (k : Nat) (v : Console) : (s.setConsole k v).hub = s.hub := rfl
@[simp] theorem State.setConsole_spiOut (s : State) (k : Nat) (v : Console) : (s.setConsole k v).spiOut = s.spiOut := rfl
@[simp] theorem State.setConsole_badRecs (s : State) (k : Nat) (v : Console) : (s.setConsole k v).badRecs = s.badRecs := rfl
@[simp] theorem State.setConsole_reports (s : State) (k : Nat) (v : Console) : (s.setConsole k v).reports = s.reports := rfl
@[simp] theorem State.setConsole_freeCount (s : State) (k : Nat) (v : Console) : (s.setConsole k v).freeCount = s.freeCount := rfl
@[simp] theorem State.setConsole_pending (s : State) (k : Nat) (v : Console) : (s.setConsole k v).pending = s.pending := rfl

@[simp] theorem State.setPort_shaft (s : State) (i : PortId) (v : Port) (j : ShaftId) : (s.setPort i v).shaft j = s.shaft j := rfl
@[simp] theorem State.setAxis_shaft (s : State) (x : Nat) (v : Axis) (j : ShaftId) : (s.setAxis x v).shaft j = s.shaft j := rfl
@[simp] theorem State.setDefn_shaft (s : State) (d : Nat) (v : Definition) (j : ShaftId) : (s.setDefn d v).shaft j = s.shaft j := rfl
@[simp] theorem State.setConsole_shaft (s : State) (k : Nat) (v : Console) (j : ShaftId) : (s.setConsole k v).shaft j = s.shaft j := rfl
@[simp] theorem State.setShaft_port (s : State) (i : ShaftId) (v : Shaft) (j : PortId) : (s.setShaft i v).port j = s.port j := rfl
@[simp] theorem State.setAxis_port (s : State) (x : Nat) (v : Axis) (j : PortId) : (s.setAxis x v).port j = s.port j := rfl
@[simp] theorem State.setDefn_port (s : State) (d : Nat) (v : Definition) (j : PortId) : (s.setDefn d v).port j = s.port j := rfl
@[simp] theorem State.setConsole_port (s : State) (k : Nat) (v : Console) (j : PortId) : (s.setConsole k v).port j = s.port j := rfl
@[simp] theorem State.setShaft_axis (s : State) (i : ShaftId) (v : Shaft) (j : Nat) : (s.setShaft i v).axis j = s.axis j := rfl
@[simp] theorem State.setPort_axis (s : State) (i : PortId) (v : Port) (j : Nat) : (s.setPort i v).axis j = s.axis j := rfl
@[simp] theorem State.setDefn_axis (s : State) (d : Nat) (v : Definition) (j : Nat) : (s.setDefn d v).axis j = s.axis j := rfl
@[simp] theorem State.setConsole_axis (s : State) (k : Nat) (v : Console) (j : Nat) : (s.setConsole k v).axis j = s.axis j := rfl
@[simp] theorem State.setShaft_defn (s : State) (i : ShaftId) (v : Shaft) (j : Nat) : (s.setShaft i v).defn j = s.defn j := rfl
@[simp] theorem State.setPort_defn (s : State) (i : PortId) (v : Port) (j : Nat) : (s.setPort i v).defn j = s.defn j := rfl
@[simp] theorem State.setAxis_defn (s : State) (x : Nat) (v : Axis) (j : Nat) : (s.setAxis x v).defn j = s.defn j := rfl
@[simp] theorem State.setConsole_defn (s : State) (k : Nat) (v : Console) (j : Nat) : (s.setConsole k v).defn j = s.defn j := rfl
@[simp] theorem State.setShaft_console (s : State) (i : ShaftId) (v : Shaft) (j : Nat) : (s.setShaft i v).console j = s.console j := rfl
@[simp] theorem State.setPort_console (s : State) (i : PortId) (v : Port) (j : Nat) : (s.setPort i v).console j = s.console j := rfl
@[simp] theorem State.setAxis_console (s : State) (x : Nat) (v : Axis) (j : Nat) : (s.setAxis x v).console j = s.console j := rfl
@[simp] theorem State.setDefn_console (s : State) (d : Nat) (v : Definition) (j : Nat) : (s.setDefn d v).console j = s.console j := rfl
@[simp] theorem State.setShaft_unit (s : State) (i : ShaftId) (v : Shaft) (j : Nat) : (s.setShaft i v).unit j = s.unit j := rfl
@[simp] theorem State.setPort_unit (s : State) (i : PortId) (v : Port) (j : Nat) : (s.setPort i v).unit j = s.unit j := rfl
@[simp] theorem State.setAxis_unit (s : State) (x : Nat) (v : Axis) (j : Nat) : (s.setAxis x v).unit j = s.unit j := rfl
@[simp] theorem State.setDefn_unit (s : State) (d : Nat) (v : Definition) (j : Nat) : (s.setDefn d v).unit j = s.unit j := rfl
@[simp] theorem State.setConsole_unit (s : State) (k : Nat) (v : Console) (j : Nat) : (s.setConsole k v).unit j = s.unit j := rfl
@[simp] theorem State.setShaft_trigger (s : State) (i : ShaftId) (v : Shaft) (j : Nat) : (s.setShaft i v).trigger j = s.trigger j := rfl
@[simp] theorem State.setPort_trigger (s : State) (i : PortId) (v : Port) (j : Nat) : (s.setPort i v).trigger j = s.trigger j := rfl
@[simp] theorem State.setAxis_trigger (s : State) (x : Nat) (v : Axis) (j : Nat) : (s.setAxis x v).trigger j = s.trigger j := rfl
@[simp] theorem State.setDefn_trigger (s : State) (d : Nat) (v : Definition) (j : Nat) : (s.setDefn d v).trigger j = s.trigger j := rfl
@[simp] theorem State.setConsole_trigger (s : State) (k : Nat) (v : Console) (j : Nat) : (s.setConsole k v).trigger j = s.trigger j := rfl
@[simp] theorem State.setShaft_view (s : State) (i : ShaftId) (v : Shaft) (j : Nat) : (s.setShaft i v).view j = s.view j := rfl
@[simp] theorem State.setPort_view (s : State) (i : PortId) (v : Port) (j : Nat) : (s.setPort i v).view j = s.view j := rfl
@[simp] theorem State.setAxis_view (s : State) (x : Nat) (v : Axis) (j : Nat) : (s.setAxis x v).view j = s.view j := rfl
@[simp] theorem State.setDefn_view (s : State) (d : Nat) (v : Definition) (j : Nat) : (s.setDefn d v).view j = s.view j := rfl
@[simp] theorem State.setConsole_view (s : State) (k : Nat) (v : Console) (j : Nat) : (s.setConsole k v).view j = s.view j := rfl
@[simp] theorem State.setShaft_failed (s : State) (i : ShaftId) (v : Shaft) : (s.setShaft i v).failed = s.failed := rfl
@[simp] theorem State.setPort_failed (s : State) (i : PortId) (v : Port) : (s.setPort i v).failed = s.failed := rfl
@[simp] theorem State.setAxis_failed (s : State) (x : Nat) (v : Axis) : (s.setAxis x v).failed = s.failed := rfl
@[simp] theorem State.setDefn_failed (s : State) (d : Nat) (v : Definition) : (s.setDefn d v).failed = s.failed := rfl
@[simp] theorem State.setConsole_failed (s : State) (k : Nat) (v : Console) : (s.setConsole k v).failed = s.failed := rfl

/-! ### A record read after it is written -/

theorem State.shaft_setShaft (s : State) (i j : ShaftId) (v : Shaft) : (s.setShaft i v).shaft j = if j = i then v else s.shaft j := by
  simp only [State.shaft, State.setShaft, Vector.getElem_set]
  by_cases h : j = i
  · subst h; simp
  · have : ¬ i.val = j.val := fun e => h (Fin.ext e.symm)
    simp [h, this]

@[simp] theorem State.shaft_setShaft_self (s : State) (i : ShaftId) (v : Shaft) : (s.setShaft i v).shaft i = v := by
  simp [State.shaft_setShaft]

theorem State.port_setPort (s : State) (i j : PortId) (v : Port) : (s.setPort i v).port j = if j = i then v else s.port j := by
  simp only [State.port, State.setPort, Vector.getElem_set]
  by_cases h : j = i
  · subst h; simp
  · have : ¬ i.val = j.val := fun e => h (Fin.ext e.symm)
    simp [h, this]

@[simp] theorem State.port_setPort_self (s : State) (i : PortId) (v : Port) : (s.setPort i v).port i = v := by
  simp [State.port_setPort]

theorem State.axis_setAxis (s : State) (x y : Nat) (v : Axis) : (s.setAxis x v).axis y = if y = x then some v else s.axis y :=
  tblGet_tblSet ..

@[simp] theorem State.axis_setAxis_self (s : State) (x : Nat) (v : Axis) : (s.setAxis x v).axis x = some v :=
  tblGet_tblSet_self ..

theorem State.defn_setDefn (s : State) (d e : Nat) (v : Definition) : (s.setDefn d v).defn e = if e = d then some v else s.defn e :=
  tblGet_tblSet ..

@[simp] theorem State.defn_setDefn_self (s : State) (d : Nat) (v : Definition) : (s.setDefn d v).defn d = some v :=
  tblGet_tblSet_self ..

theorem State.console_setConsole (s : State) (k j : Nat) (v : Console) :
    (s.setConsole k v).console j = if j = k then some v else s.console j := tblGet_tblSet ..

@[simp] theorem State.console_setConsole_self (s : State) (k : Nat) (v : Console) : (s.setConsole k v).console k = some v :=
  tblGet_tblSet_self ..

/-! ### Two writes of one record -/

@[simp] theorem State.setShaft_setShaft (s : State) (i : ShaftId) (v w : Shaft) : (s.setShaft i v).setShaft i w = s.setShaft i w := by
  simp [State.setShaft]

@[simp] theorem State.setPort_setPort (s : State) (i : PortId) (v w : Port) : (s.setPort i v).setPort i w = s.setPort i w := by
  simp [State.setPort]

@[simp] theorem State.setShaft_shaft (s : State) (i : ShaftId) : s.setShaft i (s.shaft i) = s := by
  simp [State.setShaft, State.shaft]

@[simp] theorem State.setPort_port (s : State) (i : PortId) : s.setPort i (s.port i) = s := by
  simp [State.setPort, State.port]

end Sys2Proof.Machine
end

