-- ==== Sys2Proof/Laws/Frames.lean ====
section
/-! SUPPORT. What the shared operations may change. The operations that set flags, make entries and place replies change only
the line computer's place, the consoles and the ports; of a console they keep its address, rights, presence, marks, tiles and
timer. -/
namespace Sys2Proof.Machine
open Sys2Proof

/-- `t` differs from `s` in the line computer's place, the consoles and the ports alone. -/
def PartyOnly (s t : State) : Prop := ∃ l cs ps, t = { s with line := l, consoles := cs, ports := ps }

theorem PartyOnly.refl (s : State) : PartyOnly s s := ⟨s.line, s.consoles, s.ports, rfl⟩

theorem PartyOnly.trans {s t u : State} (h : PartyOnly s t) (k : PartyOnly t u) : PartyOnly s u := by
  obtain ⟨_, _, _, rfl⟩ := h
  obtain ⟨l, cs, ps, rfl⟩ := k
  exact ⟨l, cs, ps, rfl⟩

theorem PartyOnly.foldl {α : Type} {f : State → α → State} (h : ∀ s a, PartyOnly s (f s a)) (xs : List α) (s : State) :
    PartyOnly s (xs.foldl f s) := by
  induction xs generalizing s with
  | nil => exact .refl s
  | cons a xs ih => exact (h s a).trans (ih _)

theorem PartyOnly.setPort (s : State) (p : PortId) (q : Port) : PartyOnly s (s.setPort p q) := ⟨_, _, _, rfl⟩

theorem PartyOnly.setConsole (s : State) (k : Nat) (c : Console) : PartyOnly s (s.setConsole k c) := ⟨_, _, _, rfl⟩

theorem PartyOnly.modPort (s : State) (p : PortId) (f : Port → Port) : PartyOnly s (s.modPort p f) := .setPort ..

theorem PartyOnly.modConsole (s : State) (k : Nat) (f : Console → Console) : PartyOnly s (s.modConsole k f) := by
  unfold State.modConsole
  split
  · exact .setConsole ..
  · exact .refl s

theorem makeNoticeEntry_party (k : Nat) (s : State) : PartyOnly s (makeNoticeEntry k s) := by
  unfold makeNoticeEntry
  split
  · split
    · exact .modPort ..
    · exact .refl s
  · exact .refl s

theorem setConsoleFlag_party (f : Flag) (k : Nat) (s : State) : PartyOnly s (setConsoleFlag f k s) :=
  (PartyOnly.modConsole ..).trans (makeNoticeEntry_party ..)

theorem setFlag_party (f : Flag) (s : State) : PartyOnly s (setFlag f s) :=
  PartyOnly.trans ⟨_, _, _, rfl⟩ (PartyOnly.foldl (fun t k => setConsoleFlag_party f k t) _ _)

theorem setPorts_party (s : State) : PartyOnly s (setPorts s) := ⟨_, _, _, rfl⟩

theorem markPending_party (k x : Nat) (s : State) : PartyOnly s (markPending k x s) := by
  unfold markPending
  split
  · split
    · exact (PartyOnly.setConsole ..).trans (.modPort ..)
    · exact .refl s
  · exact .refl s

theorem markWhere_party (x : Nat) (test : Watch → Bool) (s : State) : PartyOnly s (markWhere x test s) := by
  refine PartyOnly.foldl (fun t k => ?_) _ _
  split
  · split
    · exact markPending_party ..
    · exact .refl t
  · exact .refl t

theorem markAxis_party (x : Nat) (s : State) : PartyOnly s (markAxis x s) := markWhere_party ..

theorem markAxes_party (xs : List Nat) (s : State) : PartyOnly s (markAxes xs s) :=
  PartyOnly.foldl (fun t k => PartyOnly.foldl (fun u x => markPending_party k x u) xs t) _ _

theorem markCovered_party (cov : List ShaftId) (s : State) : PartyOnly s (markCovered cov s) := markAxes_party ..

theorem joinReplyQ_party (p : PortId) (w : ReplyPlace) (s : State) : PartyOnly s (joinReplyQ p w s) := .modPort ..

theorem putReply_party (r : Nat) (rep : Reply) (s : State) : PartyOnly s (putReply r rep s) := by
  unfold putReply
  split
  · exact ⟨_, _, _, rfl⟩
  · split
    · exact (PartyOnly.setConsole ..).trans (joinReplyQ_party ..)
    · exact .refl s

theorem replyInFlight_party (r : Nat) (b : ReplyBody) (s : State) : PartyOnly s (replyInFlight r b s) := by
  unfold replyInFlight
  split
  · exact putReply_party ..
  · exact .refl s

theorem replyTo_party (r : Option Nat) (b : ReplyBody) (s : State) : PartyOnly s (replyTo r b s) := by
  unfold replyTo
  split
  · exact replyInFlight_party ..
  · exact .refl s

theorem placeBusy_party (r kind tag : Nat) (s : State) : PartyOnly s (placeBusy r kind tag s) := by
  unfold placeBusy
  split
  · exact putReply_party ..
  · split
    · exact putReply_party ..
    · exact .refl s

theorem placeStray_party (p : PortId) (st kind tag : Nat) (s : State) : PartyOnly s (placeStray p st kind tag s) :=
  (PartyOnly.modPort ..).trans (joinReplyQ_party ..)

theorem setFlight_party (r : Nat) (f : Option Flight) (s : State) : PartyOnly s (setFlight r f s) := by
  unfold setFlight
  split
  · exact ⟨_, _, _, rfl⟩
  · exact .modConsole ..

theorem consolePresent_party (k : Nat) (s : State) : PartyOnly s (consolePresent k s) := by
  unfold consolePresent
  split
  · split
    · exact .refl s
    · exact (((PartyOnly.setConsole ..).trans (makeNoticeEntry_party ..)).trans
        (PartyOnly.foldl (fun u (w : Watch) => markPending_party k w.axis u) _ _)).trans (setPorts_party ..)
  · exact .refl s

theorem arrived_party (o : Origin) (s : State) : PartyOnly s (arrived o s) := by
  unfold arrived
  split
  · exact .refl s
  · split
    · exact (PartyOnly.modPort ..).trans (consolePresent_party ..)
    · exact .modPort ..

theorem taken_party (o : Origin) (r code tag : Nat) (s : State) : PartyOnly s (taken o r code tag s) :=
  (arrived_party o s).trans (setFlight_party ..)

theorem answer_party (r code tag : Nat) (b : ReplyBody) (s : State) : PartyOnly s (answer r code tag b s) := putReply_party ..

theorem inchCutReply_party (cause : CutCause) (a : Shaft) (s : State) : PartyOnly s (inchCutReply cause a s) := by
  unfold inchCutReply
  split
  · exact replyTo_party ..
  · exact .refl s

theorem trimCutReply_party (cause : CutCause) (a : Axis) (s : State) : PartyOnly s (trimCutReply cause a s) := by
  unfold trimCutReply
  split
  · exact replyTo_party ..
  · exact .refl s


/-! ### Fields kept -/

theorem PartyOnly.resetPin {s t : State} (h : PartyOnly s t) : t.resetPin = s.resetPin := by obtain ⟨_, _, _, rfl⟩ := h; rfl
theorem PartyOnly.tripPins {s t : State} (h : PartyOnly s t) : t.tripPins = s.tripPins := by obtain ⟨_, _, _, rfl⟩ := h; rfl
theorem PartyOnly.inhibitPin {s t : State} (h : PartyOnly s t) : t.inhibitPin = s.inhibitPin := by obtain ⟨_, _, _, rfl⟩ := h; rfl
theorem PartyOnly.lightPins {s t : State} (h : PartyOnly s t) : t.lightPins = s.lightPins := by obtain ⟨_, _, _, rfl⟩ := h; rfl
theorem PartyOnly.timers {s t : State} (h : PartyOnly s t) : t.timers = s.timers := by obtain ⟨_, _, _, rfl⟩ := h; rfl
theorem PartyOnly.shafts {s t : State} (h : PartyOnly s t) : t.shafts = s.shafts := by obtain ⟨_, _, _, rfl⟩ := h; rfl
theorem PartyOnly.axes {s t : State} (h : PartyOnly s t) : t.axes = s.axes := by obtain ⟨_, _, _, rfl⟩ := h; rfl
theorem PartyOnly.defs {s t : State} (h : PartyOnly s t) : t.defs = s.defs := by obtain ⟨_, _, _, rfl⟩ := h; rfl
theorem PartyOnly.trips {s t : State} (h : PartyOnly s t) : t.trips = s.trips := by obtain ⟨_, _, _, rfl⟩ := h; rfl
theorem PartyOnly.unmatched {s t : State} (h : PartyOnly s t) : t.unmatched = s.unmatched := by obtain ⟨_, _, _, rfl⟩ := h; rfl
theorem PartyOnly.overflow {s t : State} (h : PartyOnly s t) : t.overflow = s.overflow := by obtain ⟨_, _, _, rfl⟩ := h; rfl
theorem PartyOnly.linkSeen {s t : State} (h : PartyOnly s t) : t.linkSeen = s.linkSeen := by obtain ⟨_, _, _, rfl⟩ := h; rfl
theorem PartyOnly.units {s t : State} (h : PartyOnly s t) : t.units = s.units := by obtain ⟨_, _, _, rfl⟩ := h; rfl
theorem PartyOnly.shaftStacks {s t : State} (h : PartyOnly s t) : t.shaftStacks = s.shaftStacks := by obtain ⟨_, _, _, rfl⟩ := h; rfl
theorem PartyOnly.triggers {s t : State} (h : PartyOnly s t) : t.triggers = s.triggers := by obtain ⟨_, _, _, rfl⟩ := h; rfl
theorem PartyOnly.triggerLists {s t : State} (h : PartyOnly s t) : t.triggerLists = s.triggerLists := by obtain ⟨_, _, _, rfl⟩ := h; rfl
theorem PartyOnly.views {s t : State} (h : PartyOnly s t) : t.views = s.views := by obtain ⟨_, _, _, rfl⟩ := h; rfl
theorem PartyOnly.hub {s t : State} (h : PartyOnly s t) : t.hub = s.hub := by obtain ⟨_, _, _, rfl⟩ := h; rfl
theorem PartyOnly.spiOut {s t : State} (h : PartyOnly s t) : t.spiOut = s.spiOut := by obtain ⟨_, _, _, rfl⟩ := h; rfl
theorem PartyOnly.badRecs {s t : State} (h : PartyOnly s t) : t.badRecs = s.badRecs := by obtain ⟨_, _, _, rfl⟩ := h; rfl
theorem PartyOnly.reports {s t : State} (h : PartyOnly s t) : t.reports = s.reports := by obtain ⟨_, _, _, rfl⟩ := h; rfl
theorem PartyOnly.freeCount {s t : State} (h : PartyOnly s t) : t.freeCount = s.freeCount := by obtain ⟨_, _, _, rfl⟩ := h; rfl
theorem PartyOnly.pending {s t : State} (h : PartyOnly s t) : t.pending = s.pending := by obtain ⟨_, _, _, rfl⟩ := h; rfl
theorem PartyOnly.shaft {s t : State} (h : PartyOnly s t) (i : ShaftId) : t.shaft i = s.shaft i := by obtain ⟨_, _, _, rfl⟩ := h; rfl
theorem PartyOnly.axis {s t : State} (h : PartyOnly s t) (i : Nat) : t.axis i = s.axis i := by obtain ⟨_, _, _, rfl⟩ := h; rfl
theorem PartyOnly.defn {s t : State} (h : PartyOnly s t) (i : Nat) : t.defn i = s.defn i := by obtain ⟨_, _, _, rfl⟩ := h; rfl
theorem PartyOnly.unit {s t : State} (h : PartyOnly s t) (i : Nat) : t.unit i = s.unit i := by obtain ⟨_, _, _, rfl⟩ := h; rfl
theorem PartyOnly.trigger {s t : State} (h : PartyOnly s t) (i : Nat) : t.trigger i = s.trigger i := by obtain ⟨_, _, _, rfl⟩ := h; rfl
theorem PartyOnly.view {s t : State} (h : PartyOnly s t) (i : Nat) : t.view i = s.view i := by obtain ⟨_, _, _, rfl⟩ := h; rfl
theorem PartyOnly.failed {s t : State} (h : PartyOnly s t) : t.failed = s.failed := by obtain ⟨_, _, _, rfl⟩ := h; rfl

@[simp] theorem setFlag_resetPin (f : Flag) (s : State) : (setFlag f s).resetPin = s.resetPin := (setFlag_party f s).resetPin
@[simp] theorem setFlag_tripPins (f : Flag) (s : State) : (setFlag f s).tripPins = s.tripPins := (setFlag_party f s).tripPins
@[simp] theorem setFlag_inhibitPin (f : Flag) (s : State) : (setFlag f s).inhibitPin = s.inhibitPin := (setFlag_party f s).inhibitPin
@[simp] theorem setFlag_lightPins (f : Flag) (s : State) : (setFlag f s).lightPins = s.lightPins := (setFlag_party f s).lightPins
@[simp] theorem setFlag_timers (f : Flag) (s : State) : (setFlag f s).timers = s.timers := (setFlag_party f s).timers
@[simp] theorem setFlag_shafts (f : Flag) (s : State) : (setFlag f s).shafts = s.shafts := (setFlag_party f s).shafts
@[simp] theorem setFlag_axes (f : Flag) (s : State) : (setFlag f s).axes = s.axes := (setFlag_party f s).axes
@[simp] theorem setFlag_defs (f : Flag) (s : State) : (setFlag f s).defs = s.defs := (setFlag_party f s).defs
@[simp] theorem setFlag_trips (f : Flag) (s : State) : (setFlag f s).trips = s.trips := (setFlag_party f s).trips
@[simp] theorem setFlag_unmatched (f : Flag) (s : State) : (setFlag f s).unmatched = s.unmatched := (setFlag_party f s).unmatched
@[simp] theorem setFlag_overflow (f : Flag) (s : State) : (setFlag f s).overflow = s.overflow := (setFlag_party f s).overflow
@[simp] theorem setFlag_linkSeen (f : Flag) (s : State) : (setFlag f s).linkSeen = s.linkSeen := (setFlag_party f s).linkSeen
@[simp] theorem setFlag_units (f : Flag) (s : State) : (setFlag f s).units = s.units := (setFlag_party f s).units
@[simp] theorem setFlag_shaftStacks (f : Flag) (s : State) : (setFlag f s).shaftStacks = s.shaftStacks := (setFlag_party f s).shaftStacks
@[simp] theorem setFlag_triggers (f : Flag) (s : State) : (setFlag f s).triggers = s.triggers := (setFlag_party f s).triggers
@[simp] theorem setFlag_triggerLists (f : Flag) (s : State) : (setFlag f s).triggerLists = s.triggerLists := (setFlag_party f s).triggerLists
@[simp] theorem setFlag_views (f : Flag) (s : State) : (setFlag f s).views = s.views := (setFlag_party f s).views
@[simp] theorem setFlag_hub (f : Flag) (s : State) : (setFlag f s).hub = s.hub := (setFlag_party f s).hub
@[simp] theorem setFlag_spiOut (f : Flag) (s : State) : (setFlag f s).spiOut = s.spiOut := (setFlag_party f s).spiOut
@[simp] theorem setFlag_badRecs (f : Flag) (s : State) : (setFlag f s).badRecs = s.badRecs := (setFlag_party f s).badRecs
@[simp] theorem setFlag_reports (f : Flag) (s : State) : (setFlag f s).reports = s.reports := (setFlag_party f s).reports
@[simp] theorem setFlag_freeCount (f : Flag) (s : State) : (setFlag f s).freeCount = s.freeCount := (setFlag_party f s).freeCount
@[simp] theorem setFlag_pending (f : Flag) (s : State) : (setFlag f s).pending = s.pending := (setFlag_party f s).pending
@[simp] theorem setFlag_at_shaft (f : Flag) (s : State) (i : ShaftId) : (setFlag f s).shaft i = s.shaft i := (setFlag_party f s).shaft i
@[simp] theorem setFlag_at_axis (f : Flag) (s : State) (i : Nat) : (setFlag f s).axis i = s.axis i := (setFlag_party f s).axis i
@[simp] theorem setFlag_at_defn (f : Flag) (s : State) (i : Nat) : (setFlag f s).defn i = s.defn i := (setFlag_party f s).defn i
@[simp] theorem setFlag_at_unit (f : Flag) (s : State) (i : Nat) : (setFlag f s).unit i = s.unit i := (setFlag_party f s).unit i
@[simp] theorem setFlag_at_trigger (f : Flag) (s : State) (i : Nat) : (setFlag f s).trigger i = s.trigger i := (setFlag_party f s).trigger i
@[simp] theorem setFlag_at_view (f : Flag) (s : State) (i : Nat) : (setFlag f s).view i = s.view i := (setFlag_party f s).view i
@[simp] theorem setFlag_failed (f : Flag) (s : State) : (setFlag f s).failed = s.failed := (setFlag_party f s).failed
@[simp] theorem setPorts_resetPin (s : State) : (setPorts s).resetPin = s.resetPin := (setPorts_party s).resetPin
@[simp] theorem setPorts_shafts (s : State) : (setPorts s).shafts = s.shafts := (setPorts_party s).shafts
@[simp] theorem setPorts_axes (s : State) : (setPorts s).axes = s.axes := (setPorts_party s).axes
@[simp] theorem setPorts_defs (s : State) : (setPorts s).defs = s.defs := (setPorts_party s).defs
@[simp] theorem setPorts_trips (s : State) : (setPorts s).trips = s.trips := (setPorts_party s).trips
@[simp] theorem setPorts_units (s : State) : (setPorts s).units = s.units := (setPorts_party s).units
@[simp] theorem setPorts_shaftStacks (s : State) : (setPorts s).shaftStacks = s.shaftStacks := (setPorts_party s).shaftStacks
@[simp] theorem setPorts_triggers (s : State) : (setPorts s).triggers = s.triggers := (setPorts_party s).triggers
@[simp] theorem setPorts_triggerLists (s : State) : (setPorts s).triggerLists = s.triggerLists := (setPorts_party s).triggerLists
@[simp] theorem setPorts_views (s : State) : (setPorts s).views = s.views := (setPorts_party s).views
@[simp] theorem setPorts_hub (s : State) : (setPorts s).hub = s.hub := (setPorts_party s).hub
@[simp] theorem setPorts_badRecs (s : State) : (setPorts s).badRecs = s.badRecs := (setPorts_party s).badRecs
@[simp] theorem setPorts_reports (s : State) : (setPorts s).reports = s.reports := (setPorts_party s).reports
@[simp] theorem setPorts_pending (s : State) : (setPorts s).pending = s.pending := (setPorts_party s).pending
@[simp] theorem setPorts_at_shaft (s : State) (i : ShaftId) : (setPorts s).shaft i = s.shaft i := (setPorts_party s).shaft i
@[simp] theorem setPorts_at_axis (s : State) (i : Nat) : (setPorts s).axis i = s.axis i := (setPorts_party s).axis i
@[simp] theorem setPorts_at_defn (s : State) (i : Nat) : (setPorts s).defn i = s.defn i := (setPorts_party s).defn i
@[simp] theorem setPorts_at_unit (s : State) (i : Nat) : (setPorts s).unit i = s.unit i := (setPorts_party s).unit i
@[simp] theorem setPorts_at_trigger (s : State) (i : Nat) : (setPorts s).trigger i = s.trigger i := (setPorts_party s).trigger i
@[simp] theorem setPorts_at_view (s : State) (i : Nat) : (setPorts s).view i = s.view i := (setPorts_party s).view i
@[simp] theorem setPorts_failed (s : State) : (setPorts s).failed = s.failed := (setPorts_party s).failed
@[simp] theorem markPending_resetPin (k x : Nat) (s : State) : (markPending k x s).resetPin = s.resetPin := (markPending_party k x s).resetPin
@[simp] theorem markPending_shafts (k x : Nat) (s : State) : (markPending k x s).shafts = s.shafts := (markPending_party k x s).shafts
@[simp] theorem markPending_axes (k x : Nat) (s : State) : (markPending k x s).axes = s.axes := (markPending_party k x s).axes
@[simp] theorem markPending_defs (k x : Nat) (s : State) : (markPending k x s).defs = s.defs := (markPending_party k x s).defs
@[simp] theorem markPending_trips (k x : Nat) (s : State) : (markPending k x s).trips = s.trips := (markPending_party k x s).trips
@[simp] theorem markPending_units (k x : Nat) (s : State) : (markPending k x s).units = s.units := (markPending_party k x s).units
@[simp] theorem markPending_shaftStacks (k x : Nat) (s : State) : (markPending k x s).shaftStacks = s.shaftStacks := (markPending_party k x s).shaftStacks
@[simp] theorem markPending_triggers (k x : Nat) (s : State) : (markPending k x s).triggers = s.triggers := (markPending_party k x s).triggers
@[simp] theorem markPending_triggerLists (k x : Nat) (s : State) : (markPending k x s).triggerLists = s.triggerLists := (markPending_party k x s).triggerLists
@[simp] theorem markPending_views (k x : Nat) (s : State) : (markPending k x s).views = s.views := (markPending_party k x s).views
@[simp] theorem markPending_hub (k x : Nat) (s : State) : (markPending k x s).hub = s.hub := (markPending_party k x s).hub
@[simp] theorem markPending_badRecs (k x : Nat) (s : State) : (markPending k x s).badRecs = s.badRecs := (markPending_party k x s).badRecs
@[simp] theorem markPending_reports (k x : Nat) (s : State) : (markPending k x s).reports = s.reports := (markPending_party k x s).reports
@[simp] theorem markPending_pending (k x : Nat) (s : State) : (markPending k x s).pending = s.pending := (markPending_party k x s).pending
@[simp] theorem markPending_at_shaft (k x : Nat) (s : State) (i : ShaftId) : (markPending k x s).shaft i = s.shaft i := (markPending_party k x s).shaft i
@[simp] theorem markPending_at_axis (k x : Nat) (s : State) (i : Nat) : (markPending k x s).axis i = s.axis i := (markPending_party k x s).axis i
@[simp] theorem markPending_at_defn (k x : Nat) (s : State) (i : Nat) : (markPending k x s).defn i = s.defn i := (markPending_party k x s).defn i
@[simp] theorem markPending_at_unit (k x : Nat) (s : State) (i : Nat) : (markPending k x s).unit i = s.unit i := (markPending_party k x s).unit i
@[simp] theorem markPending_at_trigger (k x : Nat) (s : State) (i : Nat) : (markPending k x s).trigger i = s.trigger i := (markPending_party k x s).trigger i
@[simp] theorem markPending_at_view (k x : Nat) (s : State) (i : Nat) : (markPending k x s).view i = s.view i := (markPending_party k x s).view i
@[simp] theorem markPending_failed (k x : Nat) (s : State) : (markPending k x s).failed = s.failed := (markPending_party k x s).failed
@[simp] theorem markWhere_resetPin (x : Nat) (test : Watch → Bool) (s : State) : (markWhere x test s).resetPin = s.resetPin := (markWhere_party x test s).resetPin
@[simp] theorem markWhere_shafts (x : Nat) (test : Watch → Bool) (s : State) : (markWhere x test s).shafts = s.shafts := (markWhere_party x test s).shafts
@[simp] theorem markWhere_axes (x : Nat) (test : Watch → Bool) (s : State) : (markWhere x test s).axes = s.axes := (markWhere_party x test s).axes
@[simp] theorem markWhere_defs (x : Nat) (test : Watch → Bool) (s : State) : (markWhere x test s).defs = s.defs := (markWhere_party x test s).defs
@[simp] theorem markWhere_trips (x : Nat) (test : Watch → Bool) (s : State) : (markWhere x test s).trips = s.trips := (markWhere_party x test s).trips
@[simp] theorem markWhere_units (x : Nat) (test : Watch → Bool) (s : State) : (markWhere x test s).units = s.units := (markWhere_party x test s).units
@[simp] theorem markWhere_shaftStacks (x : Nat) (test : Watch → Bool) (s : State) : (markWhere x test s).shaftStacks = s.shaftStacks := (markWhere_party x test s).shaftStacks
@[simp] theorem markWhere_triggers (x : Nat) (test : Watch → Bool) (s : State) : (markWhere x test s).triggers = s.triggers := (markWhere_party x test s).triggers
@[simp] theorem markWhere_triggerLists (x : Nat) (test : Watch → Bool) (s : State) : (markWhere x test s).triggerLists = s.triggerLists := (markWhere_party x test s).triggerLists
@[simp] theorem markWhere_views (x : Nat) (test : Watch → Bool) (s : State) : (markWhere x test s).views = s.views := (markWhere_party x test s).views
@[simp] theorem markWhere_hub (x : Nat) (test : Watch → Bool) (s : State) : (markWhere x test s).hub = s.hub := (markWhere_party x test s).hub
@[simp] theorem markWhere_badRecs (x : Nat) (test : Watch → Bool) (s : State) : (markWhere x test s).badRecs = s.badRecs := (markWhere_party x test s).badRecs
@[simp] theorem markWhere_reports (x : Nat) (test : Watch → Bool) (s : State) : (markWhere x test s).reports = s.reports := (markWhere_party x test s).reports
@[simp] theorem markWhere_pending (x : Nat) (test : Watch → Bool) (s : State) : (markWhere x test s).pending = s.pending := (markWhere_party x test s).pending
@[simp] theorem markWhere_at_shaft (x : Nat) (test : Watch → Bool) (s : State) (i : ShaftId) : (markWhere x test s).shaft i = s.shaft i := (markWhere_party x test s).shaft i
@[simp] theorem markWhere_at_axis (x : Nat) (test : Watch → Bool) (s : State) (i : Nat) : (markWhere x test s).axis i = s.axis i := (markWhere_party x test s).axis i
@[simp] theorem markWhere_at_defn (x : Nat) (test : Watch → Bool) (s : State) (i : Nat) : (markWhere x test s).defn i = s.defn i := (markWhere_party x test s).defn i
@[simp] theorem markWhere_at_unit (x : Nat) (test : Watch → Bool) (s : State) (i : Nat) : (markWhere x test s).unit i = s.unit i := (markWhere_party x test s).unit i
@[simp] theorem markWhere_at_trigger (x : Nat) (test : Watch → Bool) (s : State) (i : Nat) : (markWhere x test s).trigger i = s.trigger i := (markWhere_party x test s).trigger i
@[simp] theorem markWhere_at_view (x : Nat) (test : Watch → Bool) (s : State) (i : Nat) : (markWhere x test s).view i = s.view i := (markWhere_party x test s).view i
@[simp] theorem markWhere_failed (x : Nat) (test : Watch → Bool) (s : State) : (markWhere x test s).failed = s.failed := (markWhere_party x test s).failed
@[simp] theorem markAxis_resetPin (x : Nat) (s : State) : (markAxis x s).resetPin = s.resetPin := (markAxis_party x s).resetPin
@[simp] theorem markAxis_tripPins (x : Nat) (s : State) : (markAxis x s).tripPins = s.tripPins := (markAxis_party x s).tripPins
@[simp] theorem markAxis_inhibitPin (x : Nat) (s : State) : (markAxis x s).inhibitPin = s.inhibitPin := (markAxis_party x s).inhibitPin
@[simp] theorem markAxis_lightPins (x : Nat) (s : State) : (markAxis x s).lightPins = s.lightPins := (markAxis_party x s).lightPins
@[simp] theorem markAxis_timers (x : Nat) (s : State) : (markAxis x s).timers = s.timers := (markAxis_party x s).timers
@[simp] theorem markAxis_shafts (x : Nat) (s : State) : (markAxis x s).shafts = s.shafts := (markAxis_party x s).shafts
@[simp] theorem markAxis_axes (x : Nat) (s : State) : (markAxis x s).axes = s.axes := (markAxis_party x s).axes
@[simp] theorem markAxis_defs (x : Nat) (s : State) : (markAxis x s).defs = s.defs := (markAxis_party x s).defs
@[simp] theorem markAxis_trips (x : Nat) (s : State) : (markAxis x s).trips = s.trips := (markAxis_party x s).trips
@[simp] theorem markAxis_unmatched (x : Nat) (s : State) : (markAxis x s).unmatched = s.unmatched := (markAxis_party x s).unmatched
@[simp] theorem markAxis_overflow (x : Nat) (s : State) : (markAxis x s).overflow = s.overflow := (markAxis_party x s).overflow
@[simp] theorem markAxis_linkSeen (x : Nat) (s : State) : (markAxis x s).linkSeen = s.linkSeen := (markAxis_party x s).linkSeen
@[simp] theorem markAxis_units (x : Nat) (s : State) : (markAxis x s).units = s.units := (markAxis_party x s).units
@[simp] theorem markAxis_shaftStacks (x : Nat) (s : State) : (markAxis x s).shaftStacks = s.shaftStacks := (markAxis_party x s).shaftStacks
@[simp] theorem markAxis_triggers (x : Nat) (s : State) : (markAxis x s).triggers = s.triggers := (markAxis_party x s).triggers
@[simp] theorem markAxis_triggerLists (x : Nat) (s : State) : (markAxis x s).triggerLists = s.triggerLists := (markAxis_party x s).triggerLists
@[simp] theorem markAxis_views (x : Nat) (s : State) : (markAxis x s).views = s.views := (markAxis_party x s).views
@[simp] theorem markAxis_hub (x : Nat) (s : State) : (markAxis x s).hub = s.hub := (markAxis_party x s).hub
@[simp] theorem markAxis_spiOut (x : Nat) (s : State) : (markAxis x s).spiOut = s.spiOut := (markAxis_party x s).spiOut
@[simp] theorem markAxis_badRecs (x : Nat) (s : State) : (markAxis x s).badRecs = s.badRecs := (markAxis_party x s).badRecs
@[simp] theorem markAxis_reports (x : Nat) (s : State) : (markAxis x s).reports = s.reports := (markAxis_party x s).reports
@[simp] theorem markAxis_freeCount (x : Nat) (s : State) : (markAxis x s).freeCount = s.freeCount := (markAxis_party x s).freeCount
@[simp] theorem markAxis_pending (x : Nat) (s : State) : (markAxis x s).pending = s.pending := (markAxis_party x s).pending
@[simp] theorem markAxis_at_shaft (x : Nat) (s : State) (i : ShaftId) : (markAxis x s).shaft i = s.shaft i := (markAxis_party x s).shaft i
@[simp] theorem markAxis_at_axis (x : Nat) (s : State) (i : Nat) : (markAxis x s).axis i = s.axis i := (markAxis_party x s).axis i
@[simp] theorem markAxis_at_defn (x : Nat) (s : State) (i : Nat) : (markAxis x s).defn i = s.defn i := (markAxis_party x s).defn i
@[simp] theorem markAxis_at_unit (x : Nat) (s : State) (i : Nat) : (markAxis x s).unit i = s.unit i := (markAxis_party x s).unit i
@[simp] theorem markAxis_at_trigger (x : Nat) (s : State) (i : Nat) : (markAxis x s).trigger i = s.trigger i := (markAxis_party x s).trigger i
@[simp] theorem markAxis_at_view (x : Nat) (s : State) (i : Nat) : (markAxis x s).view i = s.view i := (markAxis_party x s).view i
@[simp] theorem markAxis_failed (x : Nat) (s : State) : (markAxis x s).failed = s.failed := (markAxis_party x s).failed
@[simp] theorem markAxes_resetPin (xs : List Nat) (s : State) : (markAxes xs s).resetPin = s.resetPin := (markAxes_party xs s).resetPin
@[simp] theorem markAxes_shafts (xs : List Nat) (s : State) : (markAxes xs s).shafts = s.shafts := (markAxes_party xs s).shafts
@[simp] theorem markAxes_axes (xs : List Nat) (s : State) : (markAxes xs s).axes = s.axes := (markAxes_party xs s).axes
@[simp] theorem markAxes_defs (xs : List Nat) (s : State) : (markAxes xs s).defs = s.defs := (markAxes_party xs s).defs
@[simp] theorem markAxes_trips (xs : List Nat) (s : State) : (markAxes xs s).trips = s.trips := (markAxes_party xs s).trips
@[simp] theorem markAxes_units (xs : List Nat) (s : State) : (markAxes xs s).units = s.units := (markAxes_party xs s).units
@[simp] theorem markAxes_shaftStacks (xs : List Nat) (s : State) : (markAxes xs s).shaftStacks = s.shaftStacks := (markAxes_party xs s).shaftStacks
@[simp] theorem markAxes_triggers (xs : List Nat) (s : State) : (markAxes xs s).triggers = s.triggers := (markAxes_party xs s).triggers
@[simp] theorem markAxes_triggerLists (xs : List Nat) (s : State) : (markAxes xs s).triggerLists = s.triggerLists := (markAxes_party xs s).triggerLists
@[simp] theorem markAxes_views (xs : List Nat) (s : State) : (markAxes xs s).views = s.views := (markAxes_party xs s).views
@[simp] theorem markAxes_hub (xs : List Nat) (s : State) : (markAxes xs s).hub = s.hub := (markAxes_party xs s).hub
@[simp] theorem markAxes_badRecs (xs : List Nat) (s : State) : (markAxes xs s).badRecs = s.badRecs := (markAxes_party xs s).badRecs
@[simp] theorem markAxes_reports (xs : List Nat) (s : State) : (markAxes xs s).reports = s.reports := (markAxes_party xs s).reports
@[simp] theorem markAxes_pending (xs : List Nat) (s : State) : (markAxes xs s).pending = s.pending := (markAxes_party xs s).pending
@[simp] theorem markAxes_at_shaft (xs : List Nat) (s : State) (i : ShaftId) : (markAxes xs s).shaft i = s.shaft i := (markAxes_party xs s).shaft i
@[simp] theorem markAxes_at_axis (xs : List Nat) (s : State) (i : Nat) : (markAxes xs s).axis i = s.axis i := (markAxes_party xs s).axis i
@[simp] theorem markAxes_at_defn (xs : List Nat) (s : State) (i : Nat) : (markAxes xs s).defn i = s.defn i := (markAxes_party xs s).defn i
@[simp] theorem markAxes_at_unit (xs : List Nat) (s : State) (i : Nat) : (markAxes xs s).unit i = s.unit i := (markAxes_party xs s).unit i
@[simp] theorem markAxes_at_trigger (xs : List Nat) (s : State) (i : Nat) : (markAxes xs s).trigger i = s.trigger i := (markAxes_party xs s).trigger i
@[simp] theorem markAxes_at_view (xs : List Nat) (s : State) (i : Nat) : (markAxes xs s).view i = s.view i := (markAxes_party xs s).view i
@[simp] theorem markAxes_failed (xs : List Nat) (s : State) : (markAxes xs s).failed = s.failed := (markAxes_party xs s).failed
@[simp] theorem markCovered_resetPin (cov : List ShaftId) (s : State) : (markCovered cov s).resetPin = s.resetPin := (markCovered_party cov s).resetPin
@[simp] theorem markCovered_tripPins (cov : List ShaftId) (s : State) : (markCovered cov s).tripPins = s.tripPins := (markCovered_party cov s).tripPins
@[simp] theorem markCovered_inhibitPin (cov : List ShaftId) (s : State) : (markCovered cov s).inhibitPin = s.inhibitPin := (markCovered_party cov s).inhibitPin
@[simp] theorem markCovered_lightPins (cov : List ShaftId) (s : State) : (markCovered cov s).lightPins = s.lightPins := (markCovered_party cov s).lightPins
@[simp] theorem markCovered_timers (cov : List ShaftId) (s : State) : (markCovered cov s).timers = s.timers := (markCovered_party cov s).timers
@[simp] theorem markCovered_shafts (cov : List ShaftId) (s : State) : (markCovered cov s).shafts = s.shafts := (markCovered_party cov s).shafts
@[simp] theorem markCovered_axes (cov : List ShaftId) (s : State) : (markCovered cov s).axes = s.axes := (markCovered_party cov s).axes
@[simp] theorem markCovered_defs (cov : List ShaftId) (s : State) : (markCovered cov s).defs = s.defs := (markCovered_party cov s).defs
@[simp] theorem markCovered_trips (cov : List ShaftId) (s : State) : (markCovered cov s).trips = s.trips := (markCovered_party cov s).trips
@[simp] theorem markCovered_unmatched (cov : List ShaftId) (s : State) : (markCovered cov s).unmatched = s.unmatched := (markCovered_party cov s).unmatched
@[simp] theorem markCovered_overflow (cov : List ShaftId) (s : State) : (markCovered cov s).overflow = s.overflow := (markCovered_party cov s).overflow
@[simp] theorem markCovered_linkSeen (cov : List ShaftId) (s : State) : (markCovered cov s).linkSeen = s.linkSeen := (markCovered_party cov s).linkSeen
@[simp] theorem markCovered_units (cov : List ShaftId) (s : State) : (markCovered cov s).units = s.units := (markCovered_party cov s).units
@[simp] theorem markCovered_shaftStacks (cov : List ShaftId) (s : State) : (markCovered cov s).shaftStacks = s.shaftStacks := (markCovered_party cov s).shaftStacks
@[simp] theorem markCovered_triggers (cov : List ShaftId) (s : State) : (markCovered cov s).triggers = s.triggers := (markCovered_party cov s).triggers
@[simp] theorem markCovered_triggerLists (cov : List ShaftId) (s : State) : (markCovered cov s).triggerLists = s.triggerLists := (markCovered_party cov s).triggerLists
@[simp] theorem markCovered_views (cov : List ShaftId) (s : State) : (markCovered cov s).views = s.views := (markCovered_party cov s).views
@[simp] theorem markCovered_hub (cov : List ShaftId) (s : State) : (markCovered cov s).hub = s.hub := (markCovered_party cov s).hub
@[simp] theorem markCovered_spiOut (cov : List ShaftId) (s : State) : (markCovered cov s).spiOut = s.spiOut := (markCovered_party cov s).spiOut
@[simp] theorem markCovered_badRecs (cov : List ShaftId) (s : State) : (markCovered cov s).badRecs = s.badRecs := (markCovered_party cov s).badRecs
@[simp] theorem markCovered_reports (cov : List ShaftId) (s : State) : (markCovered cov s).reports = s.reports := (markCovered_party cov s).reports
@[simp] theorem markCovered_freeCount (cov : List ShaftId) (s : State) : (markCovered cov s).freeCount = s.freeCount := (markCovered_party cov s).freeCount
@[simp] theorem markCovered_pending (cov : List ShaftId) (s : State) : (markCovered cov s).pending = s.pending := (markCovered_party cov s).pending
@[simp] theorem markCovered_at_shaft (cov : List ShaftId) (s : State) (i : ShaftId) : (markCovered cov s).shaft i = s.shaft i := (markCovered_party cov s).shaft i
@[simp] theorem markCovered_at_axis (cov : List ShaftId) (s : State) (i : Nat) : (markCovered cov s).axis i = s.axis i := (markCovered_party cov s).axis i
@[simp] theorem markCovered_at_defn (cov : List ShaftId) (s : State) (i : Nat) : (markCovered cov s).defn i = s.defn i := (markCovered_party cov s).defn i
@[simp] theorem markCovered_at_unit (cov : List ShaftId) (s : State) (i : Nat) : (markCovered cov s).unit i = s.unit i := (markCovered_party cov s).unit i
@[simp] theorem markCovered_at_trigger (cov : List ShaftId) (s : State) (i : Nat) : (markCovered cov s).trigger i = s.trigger i := (markCovered_party cov s).trigger i
@[simp] theorem markCovered_at_view (cov : List ShaftId) (s : State) (i : Nat) : (markCovered cov s).view i = s.view i := (markCovered_party cov s).view i
@[simp] theorem markCovered_failed (cov : List ShaftId) (s : State) : (markCovered cov s).failed = s.failed := (markCovered_party cov s).failed
@[simp] theorem putReply_resetPin (r : Nat) (rep : Reply) (s : State) : (putReply r rep s).resetPin = s.resetPin := (putReply_party r rep s).resetPin
@[simp] theorem putReply_tripPins (r : Nat) (rep : Reply) (s : State) : (putReply r rep s).tripPins = s.tripPins := (putReply_party r rep s).tripPins
@[simp] theorem putReply_inhibitPin (r : Nat) (rep : Reply) (s : State) : (putReply r rep s).inhibitPin = s.inhibitPin := (putReply_party r rep s).inhibitPin
@[simp] theorem putReply_lightPins (r : Nat) (rep : Reply) (s : State) : (putReply r rep s).lightPins = s.lightPins := (putReply_party r rep s).lightPins
@[simp] theorem putReply_timers (r : Nat) (rep : Reply) (s : State) : (putReply r rep s).timers = s.timers := (putReply_party r rep s).timers
@[simp] theorem putReply_shafts (r : Nat) (rep : Reply) (s : State) : (putReply r rep s).shafts = s.shafts := (putReply_party r rep s).shafts
@[simp] theorem putReply_axes (r : Nat) (rep : Reply) (s : State) : (putReply r rep s).axes = s.axes := (putReply_party r rep s).axes
@[simp] theorem putReply_defs (r : Nat) (rep : Reply) (s : State) : (putReply r rep s).defs = s.defs := (putReply_party r rep s).defs
@[simp] theorem putReply_trips (r : Nat) (rep : Reply) (s : State) : (putReply r rep s).trips = s.trips := (putReply_party r rep s).trips
@[simp] theorem putReply_unmatched (r : Nat) (rep : Reply) (s : State) : (putReply r rep s).unmatched = s.unmatched := (putReply_party r rep s).unmatched
@[simp] theorem putReply_overflow (r : Nat) (rep : Reply) (s : State) : (putReply r rep s).overflow = s.overflow := (putReply_party r rep s).overflow
@[simp] theorem putReply_linkSeen (r : Nat) (rep : Reply) (s : State) : (putReply r rep s).linkSeen = s.linkSeen := (putReply_party r rep s).linkSeen
@[simp] theorem putReply_units (r : Nat) (rep : Reply) (s : State) : (putReply r rep s).units = s.units := (putReply_party r rep s).units
@[simp] theorem putReply_shaftStacks (r : Nat) (rep : Reply) (s : State) : (putReply r rep s).shaftStacks = s.shaftStacks := (putReply_party r rep s).shaftStacks
@[simp] theorem putReply_triggers (r : Nat) (rep : Reply) (s : State) : (putReply r rep s).triggers = s.triggers := (putReply_party r rep s).triggers
@[simp] theorem putReply_triggerLists (r : Nat) (rep : Reply) (s : State) : (putReply r rep s).triggerLists = s.triggerLists := (putReply_party r rep s).triggerLists
@[simp] theorem putReply_views (r : Nat) (rep : Reply) (s : State) : (putReply r rep s).views = s.views := (putReply_party r rep s).views
@[simp] theorem putReply_hub (r : Nat) (rep : Reply) (s : State) : (putReply r rep s).hub = s.hub := (putReply_party r rep s).hub
@[simp] theorem putReply_spiOut (r : Nat) (rep : Reply) (s : State) : (putReply r rep s).spiOut = s.spiOut := (putReply_party r rep s).spiOut
@[simp] theorem putReply_badRecs (r : Nat) (rep : Reply) (s : State) : (putReply r rep s).badRecs = s.badRecs := (putReply_party r rep s).badRecs
@[simp] theorem putReply_reports (r : Nat) (rep : Reply) (s : State) : (putReply r rep s).reports = s.reports := (putReply_party r rep s).reports
@[simp] theorem putReply_freeCount (r : Nat) (rep : Reply) (s : State) : (putReply r rep s).freeCount = s.freeCount := (putReply_party r rep s).freeCount
@[simp] theorem putReply_pending (r : Nat) (rep : Reply) (s : State) : (putReply r rep s).pending = s.pending := (putReply_party r rep s).pending
@[simp] theorem putReply_at_shaft (r : Nat) (rep : Reply) (s : State) (i : ShaftId) : (putReply r rep s).shaft i = s.shaft i := (putReply_party r rep s).shaft i
@[simp] theorem putReply_at_axis (r : Nat) (rep : Reply) (s : State) (i : Nat) : (putReply r rep s).axis i = s.axis i := (putReply_party r rep s).axis i
@[simp] theorem putReply_at_defn (r : Nat) (rep : Reply) (s : State) (i : Nat) : (putReply r rep s).defn i = s.defn i := (putReply_party r rep s).defn i
@[simp] theorem putReply_at_unit (r : Nat) (rep : Reply) (s : State) (i : Nat) : (putReply r rep s).unit i = s.unit i := (putReply_party r rep s).unit i
@[simp] theorem putReply_at_trigger (r : Nat) (rep : Reply) (s : State) (i : Nat) : (putReply r rep s).trigger i = s.trigger i := (putReply_party r rep s).trigger i
@[simp] theorem putReply_at_view (r : Nat) (rep : Reply) (s : State) (i : Nat) : (putReply r rep s).view i = s.view i := (putReply_party r rep s).view i
@[simp] theorem putReply_failed (r : Nat) (rep : Reply) (s : State) : (putReply r rep s).failed = s.failed := (putReply_party r rep s).failed
@[simp] theorem replyInFlight_resetPin (r : Nat) (b : ReplyBody) (s : State) : (replyInFlight r b s).resetPin = s.resetPin := (replyInFlight_party r b s).resetPin
@[simp] theorem replyInFlight_shafts (r : Nat) (b : ReplyBody) (s : State) : (replyInFlight r b s).shafts = s.shafts := (replyInFlight_party r b s).shafts
@[simp] theorem replyInFlight_axes (r : Nat) (b : ReplyBody) (s : State) : (replyInFlight r b s).axes = s.axes := (replyInFlight_party r b s).axes
@[simp] theorem replyInFlight_defs (r : Nat) (b : ReplyBody) (s : State) : (replyInFlight r b s).defs = s.defs := (replyInFlight_party r b s).defs
@[simp] theorem replyInFlight_trips (r : Nat) (b : ReplyBody) (s : State) : (replyInFlight r b s).trips = s.trips := (replyInFlight_party r b s).trips
@[simp] theorem replyInFlight_units (r : Nat) (b : ReplyBody) (s : State) : (replyInFlight r b s).units = s.units := (replyInFlight_party r b s).units
@[simp] theorem replyInFlight_shaftStacks (r : Nat) (b : ReplyBody) (s : State) : (replyInFlight r b s).shaftStacks = s.shaftStacks := (replyInFlight_party r b s).shaftStacks
@[simp] theorem replyInFlight_triggers (r : Nat) (b : ReplyBody) (s : State) : (replyInFlight r b s).triggers = s.triggers := (replyInFlight_party r b s).triggers
@[simp] theorem replyInFlight_triggerLists (r : Nat) (b : ReplyBody) (s : State) : (replyInFlight r b s).triggerLists = s.triggerLists := (replyInFlight_party r b s).triggerLists
@[simp] theorem replyInFlight_views (r : Nat) (b : ReplyBody) (s : State) : (replyInFlight r b s).views = s.views := (replyInFlight_party r b s).views
@[simp] theorem replyInFlight_hub (r : Nat) (b : ReplyBody) (s : State) : (replyInFlight r b s).hub = s.hub := (replyInFlight_party r b s).hub
@[simp] theorem replyInFlight_badRecs (r : Nat) (b : ReplyBody) (s : State) : (replyInFlight r b s).badRecs = s.badRecs := (replyInFlight_party r b s).badRecs
@[simp] theorem replyInFlight_reports (r : Nat) (b : ReplyBody) (s : State) : (replyInFlight r b s).reports = s.reports := (replyInFlight_party r b s).reports
@[simp] theorem replyInFlight_pending (r : Nat) (b : ReplyBody) (s : State) : (replyInFlight r b s).pending = s.pending := (replyInFlight_party r b s).pending
@[simp] theorem replyInFlight_at_shaft (r : Nat) (b : ReplyBody) (s : State) (i : ShaftId) : (replyInFlight r b s).shaft i = s.shaft i := (replyInFlight_party r b s).shaft i
@[simp] theorem replyInFlight_at_axis (r : Nat) (b : ReplyBody) (s : State) (i : Nat) : (replyInFlight r b s).axis i = s.axis i := (replyInFlight_party r b s).axis i
@[simp] theorem replyInFlight_at_defn (r : Nat) (b : ReplyBody) (s : State) (i : Nat) : (replyInFlight r b s).defn i = s.defn i := (replyInFlight_party r b s).defn i
@[simp] theorem replyInFlight_at_unit (r : Nat) (b : ReplyBody) (s : State) (i : Nat) : (replyInFlight r b s).unit i = s.unit i := (replyInFlight_party r b s).unit i
@[simp] theorem replyInFlight_at_trigger (r : Nat) (b : ReplyBody) (s : State) (i : Nat) : (replyInFlight r b s).trigger i = s.trigger i := (replyInFlight_party r b s).trigger i
@[simp] theorem replyInFlight_at_view (r : Nat) (b : ReplyBody) (s : State) (i : Nat) : (replyInFlight r b s).view i = s.view i := (replyInFlight_party r b s).view i
@[simp] theorem replyInFlight_failed (r : Nat) (b : ReplyBody) (s : State) : (replyInFlight r b s).failed = s.failed := (replyInFlight_party r b s).failed
@[simp] theorem replyTo_resetPin (r : Option Nat) (b : ReplyBody) (s : State) : (replyTo r b s).resetPin = s.resetPin := (replyTo_party r b s).resetPin
@[simp] theorem replyTo_tripPins (r : Option Nat) (b : ReplyBody) (s : State) : (replyTo r b s).tripPins = s.tripPins := (replyTo_party r b s).tripPins
@[simp] theorem replyTo_inhibitPin (r : Option Nat) (b : ReplyBody) (s : State) : (replyTo r b s).inhibitPin = s.inhibitPin := (replyTo_party r b s).inhibitPin
@[simp] theorem replyTo_lightPins (r : Option Nat) (b : ReplyBody) (s : State) : (replyTo r b s).lightPins = s.lightPins := (replyTo_party r b s).lightPins
@[simp] theorem replyTo_timers (r : Option Nat) (b : ReplyBody) (s : State) : (replyTo r b s).timers = s.timers := (replyTo_party r b s).timers
@[simp] theorem replyTo_shafts (r : Option Nat) (b : ReplyBody) (s : State) : (replyTo r b s).shafts = s.shafts := (replyTo_party r b s).shafts
@[simp] theorem replyTo_axes (r : Option Nat) (b : ReplyBody) (s : State) : (replyTo r b s).axes = s.axes := (replyTo_party r b s).axes
@[simp] theorem replyTo_defs (r : Option Nat) (b : ReplyBody) (s : State) : (replyTo r b s).defs = s.defs := (replyTo_party r b s).defs
@[simp] theorem replyTo_trips (r : Option Nat) (b : ReplyBody) (s : State) : (replyTo r b s).trips = s.trips := (replyTo_party r b s).trips
@[simp] theorem replyTo_unmatched (r : Option Nat) (b : ReplyBody) (s : State) : (replyTo r b s).unmatched = s.unmatched := (replyTo_party r b s).unmatched
@[simp] theorem replyTo_overflow (r : Option Nat) (b : ReplyBody) (s : State) : (replyTo r b s).overflow = s.overflow := (replyTo_party r b s).overflow
@[simp] theorem replyTo_linkSeen (r : Option Nat) (b : ReplyBody) (s : State) : (replyTo r b s).linkSeen = s.linkSeen := (replyTo_party r b s).linkSeen
@[simp] theorem replyTo_units (r : Option Nat) (b : ReplyBody) (s : State) : (replyTo r b s).units = s.units := (replyTo_party r b s).units
@[simp] theorem replyTo_shaftStacks (r : Option Nat) (b : ReplyBody) (s : State) : (replyTo r b s).shaftStacks = s.shaftStacks := (replyTo_party r b s).shaftStacks
@[simp] theorem replyTo_triggers (r : Option Nat) (b : ReplyBody) (s : State) : (replyTo r b s).triggers = s.triggers := (replyTo_party r b s).triggers
@[simp] theorem replyTo_triggerLists (r : Option Nat) (b : ReplyBody) (s : State) : (replyTo r b s).triggerLists = s.triggerLists := (replyTo_party r b s).triggerLists
@[simp] theorem replyTo_views (r : Option Nat) (b : ReplyBody) (s : State) : (replyTo r b s).views = s.views := (replyTo_party r b s).views
@[simp] theorem replyTo_hub (r : Option Nat) (b : ReplyBody) (s : State) : (replyTo r b s).hub = s.hub := (replyTo_party r b s).hub
@[simp] theorem replyTo_spiOut (r : Option Nat) (b : ReplyBody) (s : State) : (replyTo r b s).spiOut = s.spiOut := (replyTo_party r b s).spiOut
@[simp] theorem replyTo_badRecs (r : Option Nat) (b : ReplyBody) (s : State) : (replyTo r b s).badRecs = s.badRecs := (replyTo_party r b s).badRecs
@[simp] theorem replyTo_reports (r : Option Nat) (b : ReplyBody) (s : State) : (replyTo r b s).reports = s.reports := (replyTo_party r b s).reports
@[simp] theorem replyTo_freeCount (r : Option Nat) (b : ReplyBody) (s : State) : (replyTo r b s).freeCount = s.freeCount := (replyTo_party r b s).freeCount
@[simp] theorem replyTo_pending (r : Option Nat) (b : ReplyBody) (s : State) : (replyTo r b s).pending = s.pending := (replyTo_party r b s).pending
@[simp] theorem replyTo_at_shaft (r : Option Nat) (b : ReplyBody) (s : State) (i : ShaftId) : (replyTo r b s).shaft i = s.shaft i := (replyTo_party r b s).shaft i
@[simp] theorem replyTo_at_axis (r : Option Nat) (b : ReplyBody) (s : State) (i : Nat) : (replyTo r b s).axis i = s.axis i := (replyTo_party r b s).axis i
@[simp] theorem replyTo_at_defn (r : Option Nat) (b : ReplyBody) (s : State) (i : Nat) : (replyTo r b s).defn i = s.defn i := (replyTo_party r b s).defn i
@[simp] theorem replyTo_at_unit (r : Option Nat) (b : ReplyBody) (s : State) (i : Nat) : (replyTo r b s).unit i = s.unit i := (replyTo_party r b s).unit i
@[simp] theorem replyTo_at_trigger (r : Option Nat) (b : ReplyBody) (s : State) (i : Nat) : (replyTo r b s).trigger i = s.trigger i := (replyTo_party r b s).trigger i
@[simp] theorem replyTo_at_view (r : Option Nat) (b : ReplyBody) (s : State) (i : Nat) : (replyTo r b s).view i = s.view i := (replyTo_party r b s).view i
@[simp] theorem replyTo_failed (r : Option Nat) (b : ReplyBody) (s : State) : (replyTo r b s).failed = s.failed := (replyTo_party r b s).failed
@[simp] theorem setFlight_resetPin (r : Nat) (f : Option Flight) (s : State) : (setFlight r f s).resetPin = s.resetPin := (setFlight_party r f s).resetPin
@[simp] theorem setFlight_tripPins (r : Nat) (f : Option Flight) (s : State) : (setFlight r f s).tripPins = s.tripPins := (setFlight_party r f s).tripPins
@[simp] theorem setFlight_inhibitPin (r : Nat) (f : Option Flight) (s : State) : (setFlight r f s).inhibitPin = s.inhibitPin := (setFlight_party r f s).inhibitPin
@[simp] theorem setFlight_lightPins (r : Nat) (f : Option Flight) (s : State) : (setFlight r f s).lightPins = s.lightPins := (setFlight_party r f s).lightPins
@[simp] theorem setFlight_timers (r : Nat) (f : Option Flight) (s : State) : (setFlight r f s).timers = s.timers := (setFlight_party r f s).timers
@[simp] theorem setFlight_shafts (r : Nat) (f : Option Flight) (s : State) : (setFlight r f s).shafts = s.shafts := (setFlight_party r f s).shafts
@[simp] theorem setFlight_axes (r : Nat) (f : Option Flight) (s : State) : (setFlight r f s).axes = s.axes := (setFlight_party r f s).axes
@[simp] theorem setFlight_defs (r : Nat) (f : Option Flight) (s : State) : (setFlight r f s).defs = s.defs := (setFlight_party r f s).defs
@[simp] theorem setFlight_trips (r : Nat) (f : Option Flight) (s : State) : (setFlight r f s).trips = s.trips := (setFlight_party r f s).trips
@[simp] theorem setFlight_unmatched (r : Nat) (f : Option Flight) (s : State) : (setFlight r f s).unmatched = s.unmatched := (setFlight_party r f s).unmatched
@[simp] theorem setFlight_overflow (r : Nat) (f : Option Flight) (s : State) : (setFlight r f s).overflow = s.overflow := (setFlight_party r f s).overflow
@[simp] theorem setFlight_linkSeen (r : Nat) (f : Option Flight) (s : State) : (setFlight r f s).linkSeen = s.linkSeen := (setFlight_party r f s).linkSeen
@[simp] theorem setFlight_units (r : Nat) (f : Option Flight) (s : State) : (setFlight r f s).units = s.units := (setFlight_party r f s).units
@[simp] theorem setFlight_shaftStacks (r : Nat) (f : Option Flight) (s : State) : (setFlight r f s).shaftStacks = s.shaftStacks := (setFlight_party r f s).shaftStacks
@[simp] theorem setFlight_triggers (r : Nat) (f : Option Flight) (s : State) : (setFlight r f s).triggers = s.triggers := (setFlight_party r f s).triggers
@[simp] theorem setFlight_triggerLists (r : Nat) (f : Option Flight) (s : State) : (setFlight r f s).triggerLists = s.triggerLists := (setFlight_party r f s).triggerLists
@[simp] theorem setFlight_views (r : Nat) (f : Option Flight) (s : State) : (setFlight r f s).views = s.views := (setFlight_party r f s).views
@[simp] theorem setFlight_hub (r : Nat) (f : Option Flight) (s : State) : (setFlight r f s).hub = s.hub := (setFlight_party r f s).hub
@[simp] theorem setFlight_spiOut (r : Nat) (f : Option Flight) (s : State) : (setFlight r f s).spiOut = s.spiOut := (setFlight_party r f s).spiOut
@[simp] theorem setFlight_badRecs (r : Nat) (f : Option Flight) (s : State) : (setFlight r f s).badRecs = s.badRecs := (setFlight_party r f s).badRecs
@[simp] theorem setFlight_reports (r : Nat) (f : Option Flight) (s : State) : (setFlight r f s).reports = s.reports := (setFlight_party r f s).reports
@[simp] theorem setFlight_freeCount (r : Nat) (f : Option Flight) (s : State) : (setFlight r f s).freeCount = s.freeCount := (setFlight_party r f s).freeCount
@[simp] theorem setFlight_pending (r : Nat) (f : Option Flight) (s : State) : (setFlight r f s).pending = s.pending := (setFlight_party r f s).pending
@[simp] theorem setFlight_at_shaft (r : Nat) (f : Option Flight) (s : State) (i : ShaftId) : (setFlight r f s).shaft i = s.shaft i := (setFlight_party r f s).shaft i
@[simp] theorem setFlight_at_axis (r : Nat) (f : Option Flight) (s : State) (i : Nat) : (setFlight r f s).axis i = s.axis i := (setFlight_party r f s).axis i
@[simp] theorem setFlight_at_defn (r : Nat) (f : Option Flight) (s : State) (i : Nat) : (setFlight r f s).defn i = s.defn i := (setFlight_party r f s).defn i
@[simp] theorem setFlight_at_unit (r : Nat) (f : Option Flight) (s : State) (i : Nat) : (setFlight r f s).unit i = s.unit i := (setFlight_party r f s).unit i
@[simp] theorem setFlight_at_trigger (r : Nat) (f : Option Flight) (s : State) (i : Nat) : (setFlight r f s).trigger i = s.trigger i := (setFlight_party r f s).trigger i
@[simp] theorem setFlight_at_view (r : Nat) (f : Option Flight) (s : State) (i : Nat) : (setFlight r f s).view i = s.view i := (setFlight_party r f s).view i
@[simp] theorem setFlight_failed (r : Nat) (f : Option Flight) (s : State) : (setFlight r f s).failed = s.failed := (setFlight_party r f s).failed
@[simp] theorem consolePresent_resetPin (k : Nat) (s : State) : (consolePresent k s).resetPin = s.resetPin := (consolePresent_party k s).resetPin
@[simp] theorem consolePresent_shafts (k : Nat) (s : State) : (consolePresent k s).shafts = s.shafts := (consolePresent_party k s).shafts
@[simp] theorem consolePresent_axes (k : Nat) (s : State) : (consolePresent k s).axes = s.axes := (consolePresent_party k s).axes
@[simp] theorem consolePresent_defs (k : Nat) (s : State) : (consolePresent k s).defs = s.defs := (consolePresent_party k s).defs
@[simp] theorem consolePresent_trips (k : Nat) (s : State) : (consolePresent k s).trips = s.trips := (consolePresent_party k s).trips
@[simp] theorem consolePresent_units (k : Nat) (s : State) : (consolePresent k s).units = s.units := (consolePresent_party k s).units
@[simp] theorem consolePresent_shaftStacks (k : Nat) (s : State) : (consolePresent k s).shaftStacks = s.shaftStacks := (consolePresent_party k s).shaftStacks
@[simp] theorem consolePresent_triggers (k : Nat) (s : State) : (consolePresent k s).triggers = s.triggers := (consolePresent_party k s).triggers
@[simp] theorem consolePresent_triggerLists (k : Nat) (s : State) : (consolePresent k s).triggerLists = s.triggerLists := (consolePresent_party k s).triggerLists
@[simp] theorem consolePresent_views (k : Nat) (s : State) : (consolePresent k s).views = s.views := (consolePresent_party k s).views
@[simp] theorem consolePresent_hub (k : Nat) (s : State) : (consolePresent k s).hub = s.hub := (consolePresent_party k s).hub
@[simp] theorem consolePresent_badRecs (k : Nat) (s : State) : (consolePresent k s).badRecs = s.badRecs := (consolePresent_party k s).badRecs
@[simp] theorem consolePresent_reports (k : Nat) (s : State) : (consolePresent k s).reports = s.reports := (consolePresent_party k s).reports
@[simp] theorem consolePresent_pending (k : Nat) (s : State) : (consolePresent k s).pending = s.pending := (consolePresent_party k s).pending
@[simp] theorem consolePresent_at_shaft (k : Nat) (s : State) (i : ShaftId) : (consolePresent k s).shaft i = s.shaft i := (consolePresent_party k s).shaft i
@[simp] theorem consolePresent_at_axis (k : Nat) (s : State) (i : Nat) : (consolePresent k s).axis i = s.axis i := (consolePresent_party k s).axis i
@[simp] theorem consolePresent_at_defn (k : Nat) (s : State) (i : Nat) : (consolePresent k s).defn i = s.defn i := (consolePresent_party k s).defn i
@[simp] theorem consolePresent_at_unit (k : Nat) (s : State) (i : Nat) : (consolePresent k s).unit i = s.unit i := (consolePresent_party k s).unit i
@[simp] theorem consolePresent_at_trigger (k : Nat) (s : State) (i : Nat) : (consolePresent k s).trigger i = s.trigger i := (consolePresent_party k s).trigger i
@[simp] theorem consolePresent_at_view (k : Nat) (s : State) (i : Nat) : (consolePresent k s).view i = s.view i := (consolePresent_party k s).view i
@[simp] theorem consolePresent_failed (k : Nat) (s : State) : (consolePresent k s).failed = s.failed := (consolePresent_party k s).failed
@[simp] theorem arrived_resetPin (o : Origin) (s : State) : (arrived o s).resetPin = s.resetPin := (arrived_party o s).resetPin
@[simp] theorem arrived_tripPins (o : Origin) (s : State) : (arrived o s).tripPins = s.tripPins := (arrived_party o s).tripPins
@[simp] theorem arrived_inhibitPin (o : Origin) (s : State) : (arrived o s).inhibitPin = s.inhibitPin := (arrived_party o s).inhibitPin
@[simp] theorem arrived_lightPins (o : Origin) (s : State) : (arrived o s).lightPins = s.lightPins := (arrived_party o s).lightPins
@[simp] theorem arrived_timers (o : Origin) (s : State) : (arrived o s).timers = s.timers := (arrived_party o s).timers
@[simp] theorem arrived_shafts (o : Origin) (s : State) : (arrived o s).shafts = s.shafts := (arrived_party o s).shafts
@[simp] theorem arrived_axes (o : Origin) (s : State) : (arrived o s).axes = s.axes := (arrived_party o s).axes
@[simp] theorem arrived_defs (o : Origin) (s : State) : (arrived o s).defs = s.defs := (arrived_party o s).defs
@[simp] theorem arrived_trips (o : Origin) (s : State) : (arrived o s).trips = s.trips := (arrived_party o s).trips
@[simp] theorem arrived_unmatched (o : Origin) (s : State) : (arrived o s).unmatched = s.unmatched := (arrived_party o s).unmatched
@[simp] theorem arrived_overflow (o : Origin) (s : State) : (arrived o s).overflow = s.overflow := (arrived_party o s).overflow
@[simp] theorem arrived_linkSeen (o : Origin) (s : State) : (arrived o s).linkSeen = s.linkSeen := (arrived_party o s).linkSeen
@[simp] theorem arrived_units (o : Origin) (s : State) : (arrived o s).units = s.units := (arrived_party o s).units
@[simp] theorem arrived_shaftStacks (o : Origin) (s : State) : (arrived o s).shaftStacks = s.shaftStacks := (arrived_party o s).shaftStacks
@[simp] theorem arrived_triggers (o : Origin) (s : State) : (arrived o s).triggers = s.triggers := (arrived_party o s).triggers
@[simp] theorem arrived_triggerLists (o : Origin) (s : State) : (arrived o s).triggerLists = s.triggerLists := (arrived_party o s).triggerLists
@[simp] theorem arrived_views (o : Origin) (s : State) : (arrived o s).views = s.views := (arrived_party o s).views
@[simp] theorem arrived_hub (o : Origin) (s : State) : (arrived o s).hub = s.hub := (arrived_party o s).hub
@[simp] theorem arrived_spiOut (o : Origin) (s : State) : (arrived o s).spiOut = s.spiOut := (arrived_party o s).spiOut
@[simp] theorem arrived_badRecs (o : Origin) (s : State) : (arrived o s).badRecs = s.badRecs := (arrived_party o s).badRecs
@[simp] theorem arrived_reports (o : Origin) (s : State) : (arrived o s).reports = s.reports := (arrived_party o s).reports
@[simp] theorem arrived_freeCount (o : Origin) (s : State) : (arrived o s).freeCount = s.freeCount := (arrived_party o s).freeCount
@[simp] theorem arrived_pending (o : Origin) (s : State) : (arrived o s).pending = s.pending := (arrived_party o s).pending
@[simp] theorem arrived_at_shaft (o : Origin) (s : State) (i : ShaftId) : (arrived o s).shaft i = s.shaft i := (arrived_party o s).shaft i
@[simp] theorem arrived_at_axis (o : Origin) (s : State) (i : Nat) : (arrived o s).axis i = s.axis i := (arrived_party o s).axis i
@[simp] theorem arrived_at_defn (o : Origin) (s : State) (i : Nat) : (arrived o s).defn i = s.defn i := (arrived_party o s).defn i
@[simp] theorem arrived_at_unit (o : Origin) (s : State) (i : Nat) : (arrived o s).unit i = s.unit i := (arrived_party o s).unit i
@[simp] theorem arrived_at_trigger (o : Origin) (s : State) (i : Nat) : (arrived o s).trigger i = s.trigger i := (arrived_party o s).trigger i
@[simp] theorem arrived_at_view (o : Origin) (s : State) (i : Nat) : (arrived o s).view i = s.view i := (arrived_party o s).view i
@[simp] theorem arrived_failed (o : Origin) (s : State) : (arrived o s).failed = s.failed := (arrived_party o s).failed
@[simp] theorem taken_resetPin (o : Origin) (r code tag : Nat) (s : State) : (taken o r code tag s).resetPin = s.resetPin := (taken_party o r code tag s).resetPin
@[simp] theorem taken_tripPins (o : Origin) (r code tag : Nat) (s : State) : (taken o r code tag s).tripPins = s.tripPins := (taken_party o r code tag s).tripPins
@[simp] theorem taken_inhibitPin (o : Origin) (r code tag : Nat) (s : State) : (taken o r code tag s).inhibitPin = s.inhibitPin := (taken_party o r code tag s).inhibitPin
@[simp] theorem taken_lightPins (o : Origin) (r code tag : Nat) (s : State) : (taken o r code tag s).lightPins = s.lightPins := (taken_party o r code tag s).lightPins
@[simp] theorem taken_timers (o : Origin) (r code tag : Nat) (s : State) : (taken o r code tag s).timers = s.timers := (taken_party o r code tag s).timers
@[simp] theorem taken_shafts (o : Origin) (r code tag : Nat) (s : State) : (taken o r code tag s).shafts = s.shafts := (taken_party o r code tag s).shafts
@[simp] theorem taken_axes (o : Origin) (r code tag : Nat) (s : State) : (taken o r code tag s).axes = s.axes := (taken_party o r code tag s).axes
@[simp] theorem taken_defs (o : Origin) (r code tag : Nat) (s : State) : (taken o r code tag s).defs = s.defs := (taken_party o r code tag s).defs
@[simp] theorem taken_trips (o : Origin) (r code tag : Nat) (s : State) : (taken o r code tag s).trips = s.trips := (taken_party o r code tag s).trips
@[simp] theorem taken_unmatched (o : Origin) (r code tag : Nat) (s : State) : (taken o r code tag s).unmatched = s.unmatched := (taken_party o r code tag s).unmatched
@[simp] theorem taken_overflow (o : Origin) (r code tag : Nat) (s : State) : (taken o r code tag s).overflow = s.overflow := (taken_party o r code tag s).overflow
@[simp] theorem taken_linkSeen (o : Origin) (r code tag : Nat) (s : State) : (taken o r code tag s).linkSeen = s.linkSeen := (taken_party o r code tag s).linkSeen
@[simp] theorem taken_units (o : Origin) (r code tag : Nat) (s : State) : (taken o r code tag s).units = s.units := (taken_party o r code tag s).units
@[simp] theorem taken_shaftStacks (o : Origin) (r code tag : Nat) (s : State) : (taken o r code tag s).shaftStacks = s.shaftStacks := (taken_party o r code tag s).shaftStacks
@[simp] theorem taken_triggers (o : Origin) (r code tag : Nat) (s : State) : (taken o r code tag s).triggers = s.triggers := (taken_party o r code tag s).triggers
@[simp] theorem taken_triggerLists (o : Origin) (r code tag : Nat) (s : State) : (taken o r code tag s).triggerLists = s.triggerLists := (taken_party o r code tag s).triggerLists
@[simp] theorem taken_views (o : Origin) (r code tag : Nat) (s : State) : (taken o r code tag s).views = s.views := (taken_party o r code tag s).views
@[simp] theorem taken_hub (o : Origin) (r code tag : Nat) (s : State) : (taken o r code tag s).hub = s.hub := (taken_party o r code tag s).hub
@[simp] theorem taken_spiOut (o : Origin) (r code tag : Nat) (s : State) : (taken o r code tag s).spiOut = s.spiOut := (taken_party o r code tag s).spiOut
@[simp] theorem taken_badRecs (o : Origin) (r code tag : Nat) (s : State) : (taken o r code tag s).badRecs = s.badRecs := (taken_party o r code tag s).badRecs
@[simp] theorem taken_reports (o : Origin) (r code tag : Nat) (s : State) : (taken o r code tag s).reports = s.reports := (taken_party o r code tag s).reports
@[simp] theorem taken_freeCount (o : Origin) (r code tag : Nat) (s : State) : (taken o r code tag s).freeCount = s.freeCount := (taken_party o r code tag s).freeCount
@[simp] theorem taken_pending (o : Origin) (r code tag : Nat) (s : State) : (taken o r code tag s).pending = s.pending := (taken_party o r code tag s).pending
@[simp] theorem taken_at_shaft (o : Origin) (r code tag : Nat) (s : State) (i : ShaftId) : (taken o r code tag s).shaft i = s.shaft i := (taken_party o r code tag s).shaft i
@[simp] theorem taken_at_axis (o : Origin) (r code tag : Nat) (s : State) (i : Nat) : (taken o r code tag s).axis i = s.axis i := (taken_party o r code tag s).axis i
@[simp] theorem taken_at_defn (o : Origin) (r code tag : Nat) (s : State) (i : Nat) : (taken o r code tag s).defn i = s.defn i := (taken_party o r code tag s).defn i
@[simp] theorem taken_at_unit (o : Origin) (r code tag : Nat) (s : State) (i : Nat) : (taken o r code tag s).unit i = s.unit i := (taken_party o r code tag s).unit i
@[simp] theorem taken_at_trigger (o : Origin) (r code tag : Nat) (s : State) (i : Nat) : (taken o r code tag s).trigger i = s.trigger i := (taken_party o r code tag s).trigger i
@[simp] theorem taken_at_view (o : Origin) (r code tag : Nat) (s : State) (i : Nat) : (taken o r code tag s).view i = s.view i := (taken_party o r code tag s).view i
@[simp] theorem taken_failed (o : Origin) (r code tag : Nat) (s : State) : (taken o r code tag s).failed = s.failed := (taken_party o r code tag s).failed
@[simp] theorem inchCutReply_resetPin (cause : CutCause) (a : Shaft) (s : State) : (inchCutReply cause a s).resetPin = s.resetPin := (inchCutReply_party cause a s).resetPin
@[simp] theorem inchCutReply_shafts (cause : CutCause) (a : Shaft) (s : State) : (inchCutReply cause a s).shafts = s.shafts := (inchCutReply_party cause a s).shafts
@[simp] theorem inchCutReply_axes (cause : CutCause) (a : Shaft) (s : State) : (inchCutReply cause a s).axes = s.axes := (inchCutReply_party cause a s).axes
@[simp] theorem inchCutReply_defs (cause : CutCause) (a : Shaft) (s : State) : (inchCutReply cause a s).defs = s.defs := (inchCutReply_party cause a s).defs
@[simp] theorem inchCutReply_trips (cause : CutCause) (a : Shaft) (s : State) : (inchCutReply cause a s).trips = s.trips := (inchCutReply_party cause a s).trips
@[simp] theorem inchCutReply_units (cause : CutCause) (a : Shaft) (s : State) : (inchCutReply cause a s).units = s.units := (inchCutReply_party cause a s).units
@[simp] theorem inchCutReply_shaftStacks (cause : CutCause) (a : Shaft) (s : State) : (inchCutReply cause a s).shaftStacks = s.shaftStacks := (inchCutReply_party cause a s).shaftStacks
@[simp] theorem inchCutReply_triggers (cause : CutCause) (a : Shaft) (s : State) : (inchCutReply cause a s).triggers = s.triggers := (inchCutReply_party cause a s).triggers
@[simp] theorem inchCutReply_triggerLists (cause : CutCause) (a : Shaft) (s : State) : (inchCutReply cause a s).triggerLists = s.triggerLists := (inchCutReply_party cause a s).triggerLists
@[simp] theorem inchCutReply_views (cause : CutCause) (a : Shaft) (s : State) : (inchCutReply cause a s).views = s.views := (inchCutReply_party cause a s).views
@[simp] theorem inchCutReply_hub (cause : CutCause) (a : Shaft) (s : State) : (inchCutReply cause a s).hub = s.hub := (inchCutReply_party cause a s).hub
@[simp] theorem inchCutReply_badRecs (cause : CutCause) (a : Shaft) (s : State) : (inchCutReply cause a s).badRecs = s.badRecs := (inchCutReply_party cause a s).badRecs
@[simp] theorem inchCutReply_reports (cause : CutCause) (a : Shaft) (s : State) : (inchCutReply cause a s).reports = s.reports := (inchCutReply_party cause a s).reports
@[simp] theorem inchCutReply_pending (cause : CutCause) (a : Shaft) (s : State) : (inchCutReply cause a s).pending = s.pending := (inchCutReply_party cause a s).pending
@[simp] theorem inchCutReply_at_shaft (cause : CutCause) (a : Shaft) (s : State) (i : ShaftId) : (inchCutReply cause a s).shaft i = s.shaft i := (inchCutReply_party cause a s).shaft i
@[simp] theorem inchCutReply_at_axis (cause : CutCause) (a : Shaft) (s : State) (i : Nat) : (inchCutReply cause a s).axis i = s.axis i := (inchCutReply_party cause a s).axis i
@[simp] theorem inchCutReply_at_defn (cause : CutCause) (a : Shaft) (s : State) (i : Nat) : (inchCutReply cause a s).defn i = s.defn i := (inchCutReply_party cause a s).defn i
@[simp] theorem inchCutReply_at_unit (cause : CutCause) (a : Shaft) (s : State) (i : Nat) : (inchCutReply cause a s).unit i = s.unit i := (inchCutReply_party cause a s).unit i
@[simp] theorem inchCutReply_at_trigger (cause : CutCause) (a : Shaft) (s : State) (i : Nat) : (inchCutReply cause a s).trigger i = s.trigger i := (inchCutReply_party cause a s).trigger i
@[simp] theorem inchCutReply_at_view (cause : CutCause) (a : Shaft) (s : State) (i : Nat) : (inchCutReply cause a s).view i = s.view i := (inchCutReply_party cause a s).view i
@[simp] theorem inchCutReply_failed (cause : CutCause) (a : Shaft) (s : State) : (inchCutReply cause a s).failed = s.failed := (inchCutReply_party cause a s).failed
@[simp] theorem trimCutReply_resetPin (cause : CutCause) (a : Axis) (s : State) : (trimCutReply cause a s).resetPin = s.resetPin := (trimCutReply_party cause a s).resetPin
@[simp] theorem trimCutReply_shafts (cause : CutCause) (a : Axis) (s : State) : (trimCutReply cause a s).shafts = s.shafts := (trimCutReply_party cause a s).shafts
@[simp] theorem trimCutReply_axes (cause : CutCause) (a : Axis) (s : State) : (trimCutReply cause a s).axes = s.axes := (trimCutReply_party cause a s).axes
@[simp] theorem trimCutReply_defs (cause : CutCause) (a : Axis) (s : State) : (trimCutReply cause a s).defs = s.defs := (trimCutReply_party cause a s).defs
@[simp] theorem trimCutReply_trips (cause : CutCause) (a : Axis) (s : State) : (trimCutReply cause a s).trips = s.trips := (trimCutReply_party cause a s).trips
@[simp] theorem trimCutReply_units (cause : CutCause) (a : Axis) (s : State) : (trimCutReply cause a s).units = s.units := (trimCutReply_party cause a s).units
@[simp] theorem trimCutReply_shaftStacks (cause : CutCause) (a : Axis) (s : State) : (trimCutReply cause a s).shaftStacks = s.shaftStacks := (trimCutReply_party cause a s).shaftStacks
@[simp] theorem trimCutReply_triggers (cause : CutCause) (a : Axis) (s : State) : (trimCutReply cause a s).triggers = s.triggers := (trimCutReply_party cause a s).triggers
@[simp] theorem trimCutReply_triggerLists (cause : CutCause) (a : Axis) (s : State) : (trimCutReply cause a s).triggerLists = s.triggerLists := (trimCutReply_party cause a s).triggerLists
@[simp] theorem trimCutReply_views (cause : CutCause) (a : Axis) (s : State) : (trimCutReply cause a s).views = s.views := (trimCutReply_party cause a s).views
@[simp] theorem trimCutReply_hub (cause : CutCause) (a : Axis) (s : State) : (trimCutReply cause a s).hub = s.hub := (trimCutReply_party cause a s).hub
@[simp] theorem trimCutReply_badRecs (cause : CutCause) (a : Axis) (s : State) : (trimCutReply cause a s).badRecs = s.badRecs := (trimCutReply_party cause a s).badRecs
@[simp] theorem trimCutReply_reports (cause : CutCause) (a : Axis) (s : State) : (trimCutReply cause a s).reports = s.reports := (trimCutReply_party cause a s).reports
@[simp] theorem trimCutReply_pending (cause : CutCause) (a : Axis) (s : State) : (trimCutReply cause a s).pending = s.pending := (trimCutReply_party cause a s).pending
@[simp] theorem trimCutReply_at_shaft (cause : CutCause) (a : Axis) (s : State) (i : ShaftId) : (trimCutReply cause a s).shaft i = s.shaft i := (trimCutReply_party cause a s).shaft i
@[simp] theorem trimCutReply_at_axis (cause : CutCause) (a : Axis) (s : State) (i : Nat) : (trimCutReply cause a s).axis i = s.axis i := (trimCutReply_party cause a s).axis i
@[simp] theorem trimCutReply_at_defn (cause : CutCause) (a : Axis) (s : State) (i : Nat) : (trimCutReply cause a s).defn i = s.defn i := (trimCutReply_party cause a s).defn i
@[simp] theorem trimCutReply_at_unit (cause : CutCause) (a : Axis) (s : State) (i : Nat) : (trimCutReply cause a s).unit i = s.unit i := (trimCutReply_party cause a s).unit i
@[simp] theorem trimCutReply_at_trigger (cause : CutCause) (a : Axis) (s : State) (i : Nat) : (trimCutReply cause a s).trigger i = s.trigger i := (trimCutReply_party cause a s).trigger i
@[simp] theorem trimCutReply_at_view (cause : CutCause) (a : Axis) (s : State) (i : Nat) : (trimCutReply cause a s).view i = s.view i := (trimCutReply_party cause a s).view i
@[simp] theorem trimCutReply_failed (cause : CutCause) (a : Axis) (s : State) : (trimCutReply cause a s).failed = s.failed := (trimCutReply_party cause a s).failed

end Sys2Proof.Machine
end

