-- ==== Sys2Proof/Laws/Requests.lean ====
section
/-! SUPPORT. What every request does, said once: the flags, entries and replies of the shared operations keep who is in flight and
what rights he has, and a request that passes steps 1 to 5 of R147 leaves what its owning block answers. -/
namespace Sys2Proof.Machine
open Sys2Proof

/-! ### Consoles kept -/

/-- A console without its flags, its reply slot and its watch set. -/
def Console.core (c : Console) : Console := { c with flags := .clear, slot := none, watches := [] }

/-- The consoles of `t` are those of `s` but for flags, reply slots and watch sets, the line computer's flight stands, and
nothing beside the parties' records differs. -/
structure SameParties (s t : State) : Prop where
  only   : PartyOnly s t
  cores  : ∀ k, (t.console k).map Console.core = (s.console k).map Console.core
  flight : t.line.flight = s.line.flight

theorem SameParties.refl (s : State) : SameParties s s := ⟨.refl s, fun _ => rfl, rfl⟩

theorem SameParties.trans {s t u : State} (h : SameParties s t) (k : SameParties t u) : SameParties s u :=
  ⟨h.only.trans k.only, fun i => (k.cores i).trans (h.cores i), k.flight.trans h.flight⟩

theorem SameParties.foldl {α : Type} {f : State → α → State} (h : ∀ s a, SameParties s (f s a)) (xs : List α) (s : State) :
    SameParties s (xs.foldl f s) := by
  induction xs generalizing s with
  | nil => exact .refl s
  | cons a xs ih => exact (h s a).trans (ih _)

theorem SameParties.modPort (s : State) (p : PortId) (f : Port → Port) : SameParties s (s.modPort p f) :=
  ⟨.modPort .., fun _ => rfl, rfl⟩

theorem SameParties.setConsole {s : State} {k : Nat} {c d : Console} (h : s.console k = some c) (hc : d.core = c.core) :
    SameParties s (s.setConsole k d) := by
  refine ⟨.setConsole .., fun i => ?_, rfl⟩
  rw [State.console_setConsole]
  split
  · subst_vars; simp [h, hc]
  · rfl

theorem SameParties.modConsole {s : State} {k : Nat} {f : Console → Console} (hf : ∀ c, (f c).core = c.core) :
    SameParties s (s.modConsole k f) := by
  unfold State.modConsole
  split
  · next c h => exact .setConsole h (hf c)
  · exact .refl s

theorem makeNoticeEntry_same (k : Nat) (s : State) : SameParties s (makeNoticeEntry k s) := by
  unfold makeNoticeEntry
  split
  · split
    · exact .modPort ..
    · exact .refl s
  · exact .refl s

theorem setFlag_same (f : Flag) (s : State) : SameParties s (setFlag f s) := by
  have h0 : SameParties s { s with line := { s.line with flags := s.line.flags.put f } } :=
    ⟨⟨_, _, _, rfl⟩, fun _ => rfl, rfl⟩
  refine h0.trans (SameParties.foldl (fun t k => ?_) _ _)
  refine SameParties.trans (SameParties.modConsole ?_) (makeNoticeEntry_same ..)
  exact fun _ => rfl

theorem markPending_same (k x : Nat) (s : State) : SameParties s (markPending k x s) := by
  unfold markPending
  split
  · next c h =>
    split
    · refine SameParties.trans (SameParties.setConsole h ?_) (.modPort ..)
      rfl
    · exact .refl s
  · exact .refl s

theorem markWhere_same (x : Nat) (test : Watch → Bool) (s : State) : SameParties s (markWhere x test s) := by
  refine SameParties.foldl (fun t k => ?_) _ _
  split
  · split
    · exact markPending_same ..
    · exact .refl t
  · exact .refl t

theorem markAxis_same (x : Nat) (s : State) : SameParties s (markAxis x s) := markWhere_same ..

theorem markAxes_same (xs : List Nat) (s : State) : SameParties s (markAxes xs s) :=
  SameParties.foldl (fun t k => SameParties.foldl (fun u x => markPending_same k x u) xs t) _ _

theorem markCovered_same (cov : List ShaftId) (s : State) : SameParties s (markCovered cov s) := markAxes_same ..

theorem putReply_same (r : Nat) (rep : Reply) (s : State) : SameParties s (putReply r rep s) := by
  unfold putReply
  split
  · exact ⟨⟨_, _, _, rfl⟩, fun _ => rfl, rfl⟩
  · split
    · next c h =>
      refine SameParties.trans (SameParties.setConsole h ?_) (.modPort ..)
      rfl
    · exact .refl s

theorem replyInFlight_same (r : Nat) (b : ReplyBody) (s : State) : SameParties s (replyInFlight r b s) := by
  unfold replyInFlight
  split
  · exact putReply_same ..
  · exact .refl s

theorem replyTo_same (r : Option Nat) (b : ReplyBody) (s : State) : SameParties s (replyTo r b s) := by
  unfold replyTo
  split
  · exact replyInFlight_same ..
  · exact .refl s

theorem inchCutReply_same (cause : CutCause) (a : Shaft) (s : State) : SameParties s (inchCutReply cause a s) := by
  unfold inchCutReply
  split
  · exact replyTo_same ..
  · exact .refl s

theorem trimCutReply_same (cause : CutCause) (a : Axis) (s : State) : SameParties s (trimCutReply cause a s) := by
  unfold trimCutReply
  split
  · exact replyTo_same ..
  · exact .refl s

/-- Who is in flight stays. -/
theorem SameParties.flightOf {s t : State} (h : SameParties s t) (r : Nat) : flightOf t r = flightOf s r := by
  unfold Machine.flightOf
  split
  · exact h.flight
  · have := h.cores r
    cases hs : s.console r <;> cases ht : t.console r <;> rw [hs, ht] at this <;> simp at this ⊢
    have e := congrArg Console.flight this
    exact e

/-- Rights stay. -/
theorem SameParties.rightsOf {s t : State} (h : SameParties s t) (r : Nat) : rightsOf t r = rightsOf s r := by
  unfold Machine.rightsOf
  split
  · rfl
  · have := h.cores r
    cases hs : s.console r <;> cases ht : t.console r <;> rw [hs, ht] at this <;> simp at this ⊢
    have e := congrArg Console.rights this
    exact e

/-! ### Records that are good -/

theorem findsBad_none {s : State} (h : s.badRecs = []) (rs : List Rec) : findsBad s rs = false := by
  simp [findsBad, h]

theorem reading_good {s : State} (h : s.badRecs = []) (rs : List Rec) (k : State → Progress) : reading rs k s = k s := by
  simp [reading, findsBad_none h]

theorem needs_good {s : State} (h : s.badRecs = []) (rs : List Rec) (k : State → Took) : needs rs k s = k s := by
  simp [needs, findsBad_none h]

/-- While FAILED no word is found bad (R176). -/
theorem reading_failed {s : State} (h : s.failed = true) (rs : List Rec) (k : State → Progress) : reading rs k s = k s := by
  simp [reading, findsBad, h]

/-- In a hub that is awake no read stops. -/
theorem reading_awake {s : State} (h : Awake s) (rs : List Rec) (k : State → Progress) : reading rs k s = k s :=
  h.2.elim (reading_failed · rs k) (reading_good · rs k)

theorem settled_steady {s : State} (h : Settled s) : Steady s := ⟨⟨h.1.1, .inr h.1.2.2⟩, h.2⟩

@[simp] theorem andThen_on (s : State) (k : State → Progress) : (Progress.on s).andThen k = k s := rfl

@[simp] theorem andThen_stopped (s : State) (k : State → Progress) : (Progress.stopped s).andThen k = .stopped s := rfl

theorem drainReports_none {s : State} (h : s.reports = []) : drainReports s = .on s := by
  unfold drainReports
  generalize s.reports.length + s.axes.length = n
  cases n with
  | zero => rfl
  | succ n => simp [drain, h]

/-! ### Presence -/

theorem consoleAt_setConsole {s : State} {p : PortId} {st k : Nat} {c d : Console} (h : s.console k = some c)
    (hp : d.port = c.port) (hs : d.station = c.station) (ha : consoleAt s p st = some k) :
    consoleAt (s.setConsole k d) p st = some k := by
  unfold consoleAt tblFind State.setConsole State.console at *
  simp only at *
  generalize s.consoles = t at *
  induction t with
  | nil => simp at ha
  | cons q t ih =>
    obtain ⟨i, w⟩ := q
    rw [tblGet_cons] at h
    unfold tblSet
    simp only [List.filter_cons] at ha
    split at ha
    · next hw =>
      simp only [List.map_cons, List.head?_cons, Option.some.injEq] at ha
      subst ha
      simp only [↓reduceIte, Option.some.injEq] at h
      subst h
      have : (decide (d.port = p) && d.station == st) = true := by rw [hp, hs]; exact hw
      simp [this]
    · next hw =>
      split
      · by_cases hd : (decide (d.port = p) && d.station == st) = true
        · simp [hd]
        · simp only [List.filter_cons, hd, hw]
          exact ha
      · split
        · next he =>
          subst he
          simp only [↓reduceIte, Option.some.injEq] at h
          subst h
          have : ¬ (decide (d.port = p) && d.station == st) = true := by rw [hp, hs]; exact hw
          simp only [List.filter_cons, this]
          exact ha
        · next hne =>
          simp only [hne, ↓reduceIte] at h
          simp only [List.filter_cons, hw]
          exact ih h ha

/-- Console `k` is found at a port and station, and its own record names them. -/
def FoundAt (s : State) (p : PortId) (st k : Nat) : Prop := consoleAt s p st = some k

theorem consoleAt_markPending {s : State} {p : PortId} {st k : Nat} (x : Nat) (ha : consoleAt s p st = some k) :
    consoleAt (markPending k x s) p st = some k := by
  unfold markPending
  split
  · next c h =>
    split
    · exact consoleAt_setConsole h rfl rfl ha
    · exact ha
  · exact ha

theorem consoleAt_consolePresent {s : State} {p : PortId} {st k : Nat} (ha : consoleAt s p st = some k) :
    consoleAt (consolePresent k s) p st = some k := by
  unfold consolePresent
  split
  · next c h =>
    split
    · exact ha
    · have h1 : consoleAt (s.setConsole k { c with present := true, flags := .all }) p st = some k :=
        consoleAt_setConsole h rfl rfl ha
      have h2 : consoleAt (makeNoticeEntry k (s.setConsole k { c with present := true, flags := .all })) p st = some k := by
        unfold makeNoticeEntry
        split
        · split <;> exact h1
        · exact h1
      have h3 : ∀ (ws : List Watch) (t : State), consoleAt t p st = some k →
          consoleAt (ws.foldl (fun u w => markPending k w.axis u) t) p st = some k := by
        intro ws
        induction ws with
        | nil => exact fun _ h => h
        | cons w ws ih => exact fun t h => ih _ (consoleAt_markPending w.axis h)
      exact h3 _ _ h2
  · exact ha

/-- A console without presence, flags and watch set. -/
theorem consolePresent_parties (k : Nat) (s : State) :
    (∀ r, flightOf (consolePresent k s) r = flightOf s r) ∧ ∀ r, rightsOf (consolePresent k s) r = rightsOf s r := by
  unfold consolePresent
  split
  · next c h =>
    split
    · exact ⟨fun _ => rfl, fun _ => rfl⟩
    · have hs : SameParties (s.setConsole k { c with present := true, flags := .all })
          (c.watches.foldl (fun u w => markPending k w.axis u)
            (makeNoticeEntry k (s.setConsole k { c with present := true, flags := .all }))) :=
        (makeNoticeEntry_same ..).trans (SameParties.foldl (fun u (w : Watch) => markPending_same k w.axis u) _ _)
      have h0f : ∀ r, flightOf (s.setConsole k { c with present := true, flags := .all }) r = flightOf s r := by
        intro r
        simp only [flightOf, State.console_setConsole, State.setConsole_line]
        by_cases hr : r = k
        · subst hr; simp [h]
        · simp [hr]
      have h0r : ∀ r, rightsOf (s.setConsole k { c with present := true, flags := .all }) r = rightsOf s r := by
        intro r
        simp only [rightsOf, State.console_setConsole]
        by_cases hr : r = k
        · subst hr; simp [h]
        · simp [hr]
      exact ⟨fun r => (hs.flightOf r).trans (h0f r), fun r => (hs.rightsOf r).trans (h0r r)⟩
  · exact ⟨fun _ => rfl, fun _ => rfl⟩

theorem flightOf_arrived (o : Origin) (s : State) (r : Nat) : flightOf (arrived o s) r = flightOf s r := by
  unfold arrived
  split
  · rfl
  · split
    · exact ((consolePresent_parties _ _).1 r).trans rfl
    · rfl

theorem rightsOf_arrived (o : Origin) (s : State) (r : Nat) : rightsOf (arrived o s) r = rightsOf s r := by
  unfold arrived
  split
  · rfl
  · split
    · exact ((consolePresent_parties _ _).2 r).trans rfl
    · rfl

theorem rightsOf_setFlight (r q : Nat) (f : Option Flight) (s : State) : rightsOf (setFlight q f s) r = rightsOf s r := by
  unfold setFlight
  split
  · rfl
  · unfold State.modConsole
    split
    · next c h =>
      simp only [rightsOf, State.console_setConsole]
      by_cases hr : r = q
      · subst hr; simp [h]
      · simp [hr]
    · rfl

theorem flightOf_setFlight_self {r : Nat} {s : State} (f : Option Flight) (h : (rightsOf s r).isSome) :
    flightOf (setFlight r f s) r = f := by
  by_cases hr : r = 0
  · simp [flightOf, setFlight, hr]
  · simp only [rightsOf, hr, ↓reduceIte, Option.isSome_map] at h
    obtain ⟨c, hc⟩ := Option.isSome_iff_exists.1 h
    simp [flightOf, setFlight, hr, State.modConsole, hc]

/-- The request that has been taken is in flight. -/
theorem flightOf_taken {o : Origin} {r : Nat} {s : State} (code tag : Nat) (h : (rightsOf s r).isSome) :
    flightOf (taken o r code tag s) r = some { kind := code, tag, awaited := none } :=
  flightOf_setFlight_self _ (by rw [rightsOf_arrived]; exact h)

theorem rightsOf_taken (o : Origin) (r code tag q : Nat) (s : State) : rightsOf (taken o r code tag s) q = rightsOf s q := by
  rw [taken, rightsOf_setFlight, rightsOf_arrived]

/-- The reply of the request in flight is `answer`, wherever the work has kept the flight. -/
theorem replyInFlight_answer {u t : State} {r code tag : Nat} {a : Option Awaited} (body : ReplyBody)
    (h : SameParties t u) (hf : flightOf t r = some { kind := code, tag, awaited := a }) :
    replyInFlight r body u = answer r code tag body u := by
  simp [replyInFlight, h.flightOf, hf, answer]

/-! ### The way of a request -/

theorem event_live {s : State} (h : s.resetPin = false) (w : State → Progress) : event w s = settle w s := by
  simp [event, h]

theorem settle_on {w : State → Progress} {s t : State} (h : w s = .on t) : settle w s = t := by
  simp [settle, h]

/-- A frame from a station of an UP port comes to its dispatch with the sender present. -/
theorem receiveGood_up {s : State} {p : PortId} {st : Nat} (hb : s.failed = true ∨ s.badRecs = []) (hst : st < 16)
    (hup : (s.port p).state = .up) (dispatch : State → Progress) :
    receiveGood p st dispatch s = dispatch (arrived (.console p st) s) := by
  have hr : ∀ (t : State) rs k, PartyOnly s t → reading rs k t = k t := by
    intro t rs k ht
    rcases hb with hb | hb
    · exact reading_failed (ht.failed.trans hb) rs k
    · exact reading_good (ht.badRecs.trans hb) rs k
  rw [receiveGood, hr s _ _ (.refl s), hup]
  simp only []
  rw [hr _ _ _ (.modPort ..)]
  have hc : consoleAt (s.modPort p (fun q => { q with badRun := 0 })) p st = consoleAt s p st := rfl
  rw [hc]
  unfold arrived
  cases h : consoleAt s p st <;> simp [hst, h, hr _ _ _ (.modPort ..)]

/-- A request from a sender that is `r` comes to the request unit as `arrived` leaves the hub. -/
theorem handRequest_sends {o : Origin} {r : Nat} {s : State} (hb : s.failed = true ∨ s.badRecs = []) (h : SendsAs o r s)
    (code tag : Nat) (take : Nat → State → State) :
    handRequest o code tag take s = .on (take r (arrived o s)) := by
  cases o with
  | line => obtain rfl : r = 0 := h; rfl
  | console p st =>
    obtain ⟨h0, hst, hup, hat⟩ := h
    have ha : arrived (.console p st) s = consolePresent r (s.modPort p (fun q => { q with badRun := 0 })) := by
      simp [arrived, hat]
    have hk : consoleAt (arrived (.console p st) s) p st = some r := by
      rw [ha]; exact consoleAt_consolePresent hat
    have hr : ∀ rs k, reading rs k (arrived (.console p st) s) = k (arrived (.console p st) s) := by
      intro rs k
      rcases hb with hb | hb
      · exact reading_failed (by rw [arrived_failed]; exact hb) rs k
      · exact reading_good (by rw [arrived_badRecs]; exact hb) rs k
    rw [handRequest, receiveGood_up hb hst hup, hr]
    simp [hk]

/-- A request that passes steps 1 to 5 of R147 leaves what its owning block answers. -/
theorem request_ready {o : Origin} {r : Nat} {least : Rights} {s : State} (h : Ready o r least s) (code tag : Nat)
    (work : Nat → State → Took) :
    request o code tag true least work s =
      match work r (taken o r code tag s) with
      | some (u, .reply b) => replyInFlight r b u
      | some (u, .held a) => setFlight r (some { kind := code, tag, awaited := some a }) u
      | none => replyInFlight r (.refused .failed) (enterFailed (taken o r code tag s)) := by
  obtain ⟨⟨⟨hreset, hfail, hbad⟩, _⟩, hsend, hflight, has, hrights, hrank⟩ := h
  have hf : (flightOf (arrived o s) r).isSome = false := by rw [flightOf_arrived, hflight]; rfl
  have hn : (taken o r code tag s).failed = false := by rw [taken_failed]; exact hfail
  have hb : (taken o r code tag s).badRecs = [] := by rw [taken_badRecs]; exact hbad
  have hrt : rightsOf (taken o r code tag s) r = some has := by rw [rightsOf_taken, hrights]
  have htk : setFlight r (some { kind := code, tag, awaited := none }) (arrived o s) = taken o r code tag s := rfl
  rw [request, event_live hreset, settle_on (handRequest_sends (.inr hbad) hsend ..), takeFor, hf]
  simp only [Bool.false_eq_true, ↓reduceIte, htk, hn, findsBad_none hb, Bool.false_and, Bool.not_true, hrt]
  refine (if_neg (by omega)).trans ?_
  rcases work r (taken o r code tag s) with _ | ⟨u, _ | _⟩ <;> rfl

end Sys2Proof.Machine
end

