-- ==== Sys2Proof/Laws/Work.lean ====
section
/-! SUPPORT. One law per operation that one block asks of another: holder checks, shaft states, cuts, and the places where a request
reads its words. -/
namespace Sys2Proof.Machine
open Sys2Proof

/-! ### Reads of a request -/

theorem Ready.badRecs {o : Origin} {r : Nat} {least : Rights} {s : State} (h : Ready o r least s) : s.badRecs = [] := h.1.1.2.2

theorem Ready.reports {o : Origin} {r : Nat} {least : Rights} {s : State} (h : Ready o r least s) : s.reports = [] := h.1.2

theorem Ready.enrolled {o : Origin} {r : Nat} {least : Rights} {s : State} (h : Ready o r least s) : (rightsOf s r).isSome := by
  obtain ⟨_, _, _, has, hr, _⟩ := h
  simp [hr]

/-- A request whose words are good goes on after it has read them. -/
theorem needs_party {s t : State} (h : PartyOnly s t) (hb : s.badRecs = []) (rs : List Rec) (k : State → Took) :
    needs rs k t = k t := needs_good (h.badRecs.trans hb) rs k

/-- The reply of a request that is in flight. -/
theorem replyInFlight_taken {o : Origin} {r code tag : Nat} {least : Rights} {s u : State} (h : Ready o r least s) (b : ReplyBody)
    (hu : flightOf u r = flightOf (taken o r code tag s) r) : replyInFlight r b u = answer r code tag b u := by
  simp [replyInFlight, hu, flightOf_taken _ _ h.enrolled, answer]

@[simp] theorem flightOf_setShaft (s : State) (i : ShaftId) (v : Shaft) (r : Nat) : flightOf (s.setShaft i v) r = flightOf s r := rfl

@[simp] theorem flightOf_setAxis (s : State) (x : Nat) (v : Axis) (r : Nat) : flightOf (s.setAxis x v) r = flightOf s r := rfl

@[simp] theorem flightOf_setDefn (s : State) (d : Nat) (v : Definition) (r : Nat) : flightOf (s.setDefn d v) r = flightOf s r := rfl

@[simp] theorem flightOf_setFlag (f : Flag) (s : State) (r : Nat) : flightOf (setFlag f s) r = flightOf s r :=
  (setFlag_same f s).flightOf r

@[simp] theorem flightOf_markAxis (x : Nat) (s : State) (r : Nat) : flightOf (markAxis x s) r = flightOf s r :=
  (markAxis_same x s).flightOf r

@[simp] theorem flightOf_markPending (k x : Nat) (s : State) (r : Nat) : flightOf (markPending k x s) r = flightOf s r :=
  (markPending_same k x s).flightOf r

@[simp] theorem flightOf_inchCutReply (c : CutCause) (a : Shaft) (s : State) (r : Nat) :
    flightOf (inchCutReply c a s) r = flightOf s r := (inchCutReply_same c a s).flightOf r

@[simp] theorem flightOf_trimCutReply (c : CutCause) (a : Axis) (s : State) (r : Nat) :
    flightOf (trimCutReply c a s) r = flightOf s r := (trimCutReply_same c a s).flightOf r

/-! ### Numbers of records -/

@[simp] theorem toShaft_val (sh : ShaftId) : toShaft sh.val = some sh := by simp [toShaft]

theorem toShaft_none {n : Nat} (h : 4 ≤ n) : toShaft n = none := by
  simp [toShaft]
  omega

@[simp] theorem toPort_val (p : PortId) : toPort p.val = some p := by simp [toPort]

theorem toPort_none {n : Nat} (h : 6 ≤ n) : toPort n = none := by
  simp [toPort]
  omega

/-! ### Grant stacks -/

theorem stackOf_party {s t : State} (h : PartyOnly s t) (cp : ControlPoint) : stackOf t cp = stackOf s cp := by
  obtain ⟨_, _, _, rfl⟩ := h
  cases cp <;> rfl

theorem holderCheck_party {s t : State} (h : PartyOnly s t) (r : Nat) (cp : ControlPoint) :
    holderCheck t r cp = holderCheck s r cp := by
  simp [holderCheck, stackOf_party h]

/-- The line computer passes every holder check (R95). -/
@[simp] theorem holderCheck_line (s : State) (cp : ControlPoint) : holderCheck s 0 cp = none := by simp [holderCheck]

/-! ### Shaft states and cuts -/

/-- A shaft that changes its state sets SHAFTS (R18). -/
theorem enterState_ne {sh : ShaftId} {st : ShaftState} {s : State} (h : (s.shaft sh).state ≠ st) :
    enterState sh st s = setFlag .shafts (s.setShaft sh { s.shaft sh with state := st }) := by
  simp [enterState, h]

/-- A shaft already in the state is left as it stands. -/
theorem enterState_eq {sh : ShaftId} {st : ShaftState} {s : State} (h : (s.shaft sh).state = st) : enterState sh st s = s := by
  simp [enterState, h]

/-- An inch that is cut has its reply placed and its fields made absent; a shaft without an inch is left as it stands (R11). -/
theorem cutInch_eq (cause : CutCause) (sh : ShaftId) (s : State) :
    cutInch cause sh s = (inchCutReply cause (s.shaft sh) s).setShaft sh { s.shaft sh with inch := none } := by
  unfold cutInch inchCutReply
  cases h : (s.shaft sh).inch with
  | some i => rfl
  | none =>
    have : { s.shaft sh with inch := none } = s.shaft sh := by rw [← h]
    simp [this]

/-- An awaited trim that is cut has its reply placed and its await made absent (R40). -/
theorem cutAwait_eq {cause : CutCause} {x : Nat} {s : State} {a : Axis} (h : s.axis x = some a) (w : Await) (hw : a.await = some w) :
    cutAwait cause x s = (trimCutReply cause a s).setAxis x { a with await := none } := by
  simp [cutAwait, trimCutReply, h, hw]

end Sys2Proof.Machine
end

