-- ==== Sys2Proof/Tests/Slice0.lean ====
section
/-! SUPPORT. Tests whose expected values come from the manual's worked examples and tables, the smoke test of WellFormed, and
a witness for the hypotheses of each statement. -/
namespace Sys2Proof.Tests
open Sys2Proof Sys2Proof.Machine
set_option Elab.async false

/-! ### A small press -/

/-- The state a command leaves. -/
def after (c : Instr) (s : State) : State :=
  match exec c s with
  | .next t => t
  | .fault _ | .refused _ => s

/-- The line computer's reply after a command. -/
def replied (c : Instr) (s : State) : Option ReplyBody := ((after c s).line.slot).map (·.body)

/-- A console PRESENT on P0 with default marks. -/
def consoleOn (st : Nat) (rights : Rights) : Console :=
  { port := 0, station := st, rights, present := true, high := 24, low := 8, flags := .clear, flight := none, slot := none,
    slots := [], held := false, holdTimer := none, watches := [] }

/-- X4 of the three-cycle example of chapter 2, but for its shaft, here S0 with unit U0. -/
def axis4 : Axis :=
  { shaft := 0, unit := 0, port := 0, station := 2, channel := 0, gearN := 3, shift := 1, rem := 0, w := 0, c := 0, t := 40, slew := 16,
    x := 0, y := none, e := none, lagLimit := 0, window := 0, windowCount := 0, lagDef := 0, lossDef := 0, engaged := true,
    lagCause := false, lossCause := false, await := none }

/-- G2 of the three-cycle example. -/
def trigger2 : Trigger :=
  { shaft := 0, port := 0, station := 5, angle := 1000, divider := 1, phase := 0, seq := 40, enabled := true }

/-- S0 before the first event of the three-cycle example. -/
def shaftRunning : Shaft :=
  { Shaft.reset with state := .running, v := 655488, vt := 655488, vMax := 1048576, angle := 1048000, rep := 7, frac := 128 }

/-- S1 and the rest: STANDBY with V_max, inch limit and rates of the inch example. -/
def shaftStanding : Shaft := { Shaft.reset with vMax := 1048576, inchLimit := 65536 }

/-- A definition with its source, scope and category. -/
def watching (src : SourceSpec) (scope : Scope) (category : Category) : Definition :=
  { src, scope, category, maskable := false, held := false, cause := false, presentAxes := [] }

/-- A press with S0 running; X4 and G2 on S0, X5 RELEASED on S1; K1 OPERATOR, K2 VIEWER and the ABSENT K3 on P0, which is UP; trips on lines 3
and 4 and on a station's code 12. -/
def press : State :=
  { State.reset with
    shafts := #v[shaftRunning, shaftStanding, shaftStanding, shaftStanding]
    units := [(0, { shaft := 0, stack := [1] }), (1, { shaft := 1, stack := [] })]
    shaftStacks := #v[[1], [1], [], []]
    axes := [(4, axis4), (5, { axis4 with shaft := 1, unit := 1, channel := 1, engaged := false, x := 9603 })]
    defs := [(0, .catchAll), (1, { watching (.line 3) (.shaft 0) .ramp with maskable := true }), (2, watching (.line 4) .all .halt),
      (3, watching (.station 0 9 12) (.unit 0) .quick)]
    triggers := [(2, trigger2)]
    triggerLists := #v[[2], [], [], []]
    views := [(4, { owner := 1, trigger := 2, firstTile := 0, lastTile := 39, state := .active, thin := 0, lastThin := none })]
    consoles := [(1, consoleOn 1 .operator), (2, consoleOn 3 .viewer), (3, { consoleOn 7 .setter with present := false })]
    ports := #v[{ Port.reset with state := .up }, { Port.reset with state := .aligning, goodRun := 14 }, .reset, .reset, .reset, .reset]
    linkSeen := #v[true, false, false, false, false, false] }

/-! ### WellFormed refuses what cannot arrive -/

theorem test_wf_run : (Instr.run .line 1 0 655488).wf = true := by decide

theorem test_wf_tag : (Instr.stop .line 256 0).wf = false := by decide

theorem test_wf_origin : (Instr.stop (.console 0 16) 1 0).wf = false := by decide

theorem test_wf_object : (Instr.engage .line 1 256).wf = false := by decide

theorem test_wf_signed : (Instr.run .line 1 0 2147483648).wf = false := by decide

theorem test_wf_repeats : (Instr.inch .line 1 0 5 256).wf = false := by decide

theorem test_wf_shaft_fields :
    (Instr.amendShaft .line 1 0 { period := some 65536, vMax := none, acc := none, dn := none, dq := none, inchLimit := none }).wf = false := by
  decide

theorem test_wf_axis_enrol :
    (Instr.enrolAxis .line 1 { shaft := 0, unit := 0, port := 0, station := 0, channel := 0, gearN := 0, shift := 0, slew := 4294967296, lagLimit := 0, window := 0, lagDef := 0, lossDef := 0 }).wf
      = false := by decide

theorem test_wf_axis_fields : (Instr.amendAxis .line 1 0 { noAxisFields with trim := some (-2147483649) }).wf = false := by decide

theorem test_wf_feedback : (Instr.feedback 0 1 []).wf = false := by decide

theorem test_wf_feedback_entry : (Instr.feedback 0 1 [{ channel := 256, y := 0, e := 0 }]).wf = false := by decide

theorem test_wf_source : (Instr.enrolDefinition .line 1 (.line 256) .all .quick false).wf = false := by decide

theorem test_wf_scope : (Instr.enrolDefinition .line 1 .lag (.unit 256) .quick false).wf = false := by decide

theorem test_wf_definition_fields :
    (Instr.amendDefinition .line 1 1 { port := none, station := none, kind := none, line := none, code := some 256, scope := none, scopeNum := none, category := none, maskable := none }).wf
      = false := by decide

theorem test_wf_acknowledge : (Instr.acknowledge .line 1 255).wf = false := by decide

theorem test_wf_trip : (Instr.raiseTrip 0 16 1).wf = false := by decide

theorem test_wf_point : (Instr.grant .line 1 (.unit 256)).wf = false := by decide

theorem test_wf_trigger :
    (Instr.enrolTrigger .line 1 { shaft := 0, port := 0, station := 0, angle := 4294967296, divider := 1, enabled := true }).wf = false := by
  decide

theorem test_wf_trigger_fields :
    (Instr.amendTrigger .line 1 0 { shaft := none, port := none, station := none, angle := none, divider := some 256, enabled := none }).wf = false := by
  decide

theorem test_wf_view : (Instr.enrolView .line 1 { owner := some 256, trigger := 0, firstTile := 0, lastTile := 0, state := .active }).wf = false := by
  decide

theorem test_wf_view_fields :
    (Instr.amendView .line 1 0 { owner := none, trigger := none, firstTile := some 256, lastTile := none, state := none }).wf = false := by decide

theorem test_wf_tile : (Instr.tile 0 1 0 0 256 false []).wf = false := by decide

theorem test_wf_timer : (Instr.holdTimerExpiry 0).wf = false := by decide

theorem test_wf_console : (Instr.enrolConsole .line 1 { port := 256, station := 0, rights := .viewer, high := none, low := none }).wf = false := by
  decide

theorem test_wf_console_fields : (Instr.amendConsole .line 1 1 { noConsoleFields with high := some 256 }).wf = false := by decide

theorem test_wf_hub : (Instr.amendHub .line 1 { holdLimit := none, watchBand := some 65536, grace := none, failed := none }).wf = false := by
  decide

theorem test_wf_idle : (Instr.idle 0 16).wf = false := by decide

theorem test_wf_other_frame : (Instr.unknownKindFrame 0 1 0x06 []).wf = false := by decide

/-! ### Frames and bodies written out from R178 to R183 -/

/-- The check value of CRC-32 over the digits 1 to 9 (general knowledge, notes/assumptions/6.md). -/
theorem test_crc_check : crc32 [0x31, 0x32, 0x33, 0x34, 0x35, 0x36, 0x37, 0x38, 0x39] = 0xCBF43926#32 := by decide +kernel

theorem test_decode_run :
    decodeRequest .line [0x10, 0x05, 0x03, 0x00, 0x07, 0x80, 0x00, 0x0A, 0x00] = some (.run .line 5 0 655488) := by decide +kernel

theorem test_decode_reverse_inch :
    decodeRequest .line [0x13, 0x06, 0x03, 0x02, 0x07, 0xFF, 0xFF, 0xFF, 0xFF, 0x08, 0x02] = some (.inch .line 6 2 (-1) 2) := by decide +kernel

theorem test_decode_await :
    decodeRequest .line [0x03, 0x01, 0x01, 0x04, 0x18, 0x28, 0x00, 0x00, 0x00, 0x19, 0x01] =
      some (.amendAxisAwait .line 1 4 { noAxisFields with trim := some 40 }) := by decide +kernel

theorem test_decode_enrol_unit : decodeRequest .line [0x02, 0x01, 0x02, 0x00, 0x10, 0x00] = some (.enrolUnit .line 1 0 0) := by decide +kernel

theorem test_decode_acknowledge_all : decodeRequest .line [0x28, 0x09, 0x04, 0xFF] = some (.acknowledgeAll .line 9) := by decide

theorem test_decode_twice_refused :
    decodeRequest .line [0x10, 0x05, 0x03, 0x00, 0x07, 0, 0, 0, 0, 0x07, 0, 0, 0, 0] = none := by decide +kernel

theorem test_frame_raise : fittingFrame 0 9 0x03 [0x01, 0x0C] = some (.raiseTrip 0 9 12) := by decide

theorem test_frame_feedback :
    fittingFrame 0 2 0x02 [0x01, 0x01, 0xE0, 0xA1, 0x07, 0x00, 0xF8, 0xFF, 0xFF, 0xFF] =
      some (.feedback 0 2 [{ channel := 1, y := 500192, e := -8 }]) := by decide +kernel

theorem test_frame_tile :
    fittingFrame 3 5 0x05 [0x06, 0x64, 0x00, 0x17, 0x01, 0xAA] = some (.tile 3 5 6 100 23 true [0xAA]) := by decide +kernel

theorem test_frame_bad_crc : decodeFrame 0 [0x06, 0x01, 0x00, 0x00, 0, 0, 0, 0] = .badFrame 0 := by decide +kernel

/-! ### Shafts: the ramp trip, the inch, the ramp to speed -/

theorem test_ramp_step : speedStep { shaftRunning with v := 655360, acc := 2560 } = 655488 := by decide

theorem test_ramp_trip_step : speedStep { Shaft.reset with state := .tripStopping, v := 4096, tripRate := some .ramp } = 3840 := by decide

theorem test_quick_trip_step : speedStep { Shaft.reset with state := .tripStopping, v := 512, tripRate := some .quick } = 0 := by decide

theorem test_demand_lowered_keeps_rate :
    ((takeDemand 0 .ramp (press.setShaft 0 { shaftRunning with state := .tripStopping, demand := .quick, tripRate := some .quick })).shaft 0).tripRate
      = some .quick := by decide +kernel

theorem test_trip_stop_ends :
    ((after (.cycleEvent 2) (press.setShaft 2 { shaftStanding with state := .tripStopping, v := 512, tripRate := some .quick })).shaft 2).state = .tripped := by
  decide +kernel

theorem test_inch_clamped :
    ((after (.inch .line 17 2 100000 2) press).shaft 2).inch = some { remaining := 2, requester := some 0, noted := true, forward := true } := by
  decide +kernel

theorem test_inch_speed : ((after (.inch .line 17 2 100000 2) press).shaft 2).vt = 65536 := by decide +kernel

theorem test_run_noted : replied (.run .line 1 1 1048577) press = some (.noted .plain) := by decide +kernel

theorem test_run_running : replied (.run .line 1 0 5) press = some (.refused .state) := by decide +kernel

theorem test_speed : ((after (.speed .line 1 0 700000) press).shaft 0).vt = 700000 := by decide +kernel

theorem test_stop : ((after (.stop (.console 0 3) 1 0) press).shaft 0).state = .stopping := by decide +kernel

theorem test_amend_shaft_moving :
    replied (.amendShaft .line 1 0 { period := none, vMax := some 655487, acc := none, dn := none, dq := none, inchLimit := none }) press
      = some (.refused .moving) := by decide +kernel

/-! ### Setpoints: the three cycles, the edges, gear reach -/

theorem test_advance_first : (masterAdvance shaftRunning).delta = 2561 := by decide

theorem test_advance_angle : (advanced shaftRunning).angle = 1985 := by decide

theorem test_advance_repeat : (advanced shaftRunning).rep = 8 := by decide

theorem test_advance_reverse : (advanced { Shaft.reset with v := -300, frac := 40, angle := 1 }).rep = 65535 := by decide

theorem test_advance_reverse_frac : (advanced { Shaft.reset with v := -300, frac := 40, angle := 1 }).frac = 252 := by decide

theorem test_gear_first : (stepAxis axis4 2561).x = 3857 := by decide +kernel

theorem test_gear_remainder : (stepAxis { axis4 with gearN := -5, shift := 2, t := 0 } (2561)).rem = 3 := by decide +kernel

theorem test_gear_negative : (stepAxis { axis4 with gearN := -5, shift := 2, t := 0 } (2561)).w = 4294964094 := by decide +kernel

theorem test_cycle_trim : ((after (.cycleEvent 0) press).axis 4).map (·.c) = some 16 := by decide +kernel

theorem test_cycle_strobe :
    ((after (.cycleEvent 0) press).port 0).strobeQ.map (fun f => (f.delay, f.rep, f.seq)) = [(157, 8, 40)] := by decide +kernel

theorem test_gear_reach :
    replied (.enrolAxis .line 1 { shaft := 0, unit := 0, port := 0, station := 0, channel := 0, gearN := 2048, shift := 0, slew := 1, lagLimit := 0, window := 0, lagDef := 0, lossDef := 0 }) press
      = some (.refused .range) := by decide +kernel

theorem test_gear_reach_edge :
    replied (.enrolAxis .line 1 { shaft := 0, unit := 0, port := 0, station := 0, channel := 0, gearN := 2047, shift := 0, slew := 1, lagLimit := 0, window := 0, lagDef := 0, lossDef := 0 }) press
      = some (.done (.newId 0)) := by decide +kernel

/-! ### Axes -/

theorem test_engage : ((after (.engage .line 1 5) press).axis 5).map (·.c) = some 9603 := by decide +kernel

theorem test_engage_again : replied (.engage .line 1 4) press = some (.refused .state) := by decide +kernel

theorem test_release_noted : replied (.release .line 1 5) press = some (.noted .plain) := by decide +kernel

theorem test_trim_clamped : replied (.amendAxis .line 1 4 { noAxisFields with trim := some 524288 }) press = some (.noted .plain) := by
  decide +kernel

theorem test_gear_moving : replied (.amendAxis .line 1 4 { noAxisFields with gearN := some 1 }) press = some (.refused .moving) := by
  decide +kernel

theorem test_await_held : (after (.amendAxisAwait .line 1 4 { noAxisFields with trim := some 50 }) press).line.flight =
    some { kind := 0x03, tag := 1, awaited := some (.axis 4) } := by decide +kernel

theorem test_await_released : replied (.amendAxisAwait .line 1 5 { noAxisFields with trim := some 50 }) press = some (.refused .state) := by
  decide +kernel

theorem test_retire_engaged : replied (.retireAxis .line 1 4) press = some (.refused .inUse) := by decide +kernel

theorem test_feedback : ((after (.feedback 0 2 [{ channel := 1, y := 500260, e := 7 }]) press).axis 5).bind (·.y) = some 500260 := by
  decide +kernel

/-! ### Trips -/

theorem test_line_trip : (after (.tripLineChange 3 true) press).trips.map (fun e => (e.defn, e.state)) = [(1, .raised)] := by decide +kernel

theorem test_line_trip_stops : ((after (.tripLineChange 3 true) press).shaft 0).tripRate = some .ramp := by decide +kernel

theorem test_halt_opens : (after (.tripLineChange 4 true) press).stopchainOpen = true := by decide +kernel

theorem test_halt_releases : ((after (.tripLineChange 4 true) press).axis 4).map (·.engaged) = some false := by decide +kernel

theorem test_unmatched : (after (.raiseTrip 0 1 3) press).unmatched = [.station 0 1 3] := by decide +kernel

theorem test_dropped_trip_clears :
    (after (.dropTrip 0 9 12) (after (.raiseTrip 0 9 12) press)).trips.map (·.state) = [.cleared] := by decide +kernel

theorem test_inhibit_checked : (after .inhibitAsserted { press with badRecs := [.unmatched] }).failed = true := by decide +kernel

theorem test_inhibit_holds : ((after (.tripLineChange 3 true) (after .inhibitAsserted press)).defn 1).map (·.held) = some true := by decide +kernel

theorem test_inhibit_released :
    (after .inhibitReleased (after (.tripLineChange 3 true) (after .inhibitAsserted press))).trips.map (·.defn) = [1] := by decide +kernel

theorem test_acknowledge : (after (.acknowledge .line 1 1) (after (.tripLineChange 3 true) press)).trips.map (·.ackedBy) = [some 0] := by
  decide +kernel

theorem test_acknowledge_all_noted : replied (.acknowledgeAll .line 1) press = some (.noted .plain) := by decide +kernel

theorem test_enrol_definition : replied (.enrolDefinition .line 1 .lag .source .quick false) press = some (.done (.newId 4)) := by decide +kernel

theorem test_amend_d0 :
    replied (.amendDefinition .line 1 0 { port := none, station := none, kind := none, line := none, code := none, scope := none, scopeNum := none, category := some .ramp, maskable := none }) press
      = some (.refused .range) := by decide +kernel

theorem test_retire_definition : replied (.retireDefinition .line 1 3) press = some (.done .plain) := by decide +kernel

/-! ### Units, grants, triggers, views, tiles -/

theorem test_enrol_unit : replied (.enrolUnit .line 1 15 3) press = some (.done (.newId 15)) := by decide +kernel

theorem test_enrol_unit_twice : replied (.enrolUnit .line 1 1 1) press = some (.refused .duplicate) := by decide +kernel

theorem test_amend_unit_in_use : replied (.amendUnit .line 1 0 1) press = some (.refused .inUse) := by decide +kernel

theorem test_retire_unit_absent : replied (.retireUnit .line 1 15) press = some (.refused .absent) := by decide +kernel

theorem test_grant_preempts : (after (.grant .line 1 (.shaft 0)) press).shaftStacks[0] = [1, 0] := by decide +kernel

theorem test_yield_returns : (after (.yield (.console 0 1) 1 (.shaft 0)) press).shaftStacks[0] = [] := by decide +kernel

theorem test_trigger_placed :
    (after (.enrolTrigger .line 1 { shaft := 0, port := 0, station := 5, angle := 999, divider := 1, enabled := true }) press).triggerLists[0] = [0, 2] := by
  decide +kernel

theorem test_trigger_moved :
    ((after (.amendTrigger .line 1 2 { shaft := none, port := none, station := none, angle := some 400000, divider := none, enabled := none }) press).trigger 2).map
      (fun g => (g.angle, g.seq)) = some (400000, 40) := by decide +kernel

theorem test_trigger_in_use : replied (.retireTrigger .line 1 2) press = some (.refused .inUse) := by decide +kernel

theorem test_enrol_view :
    replied (.enrolView .line 1 { owner := some 2, trigger := 2, firstTile := 0, lastTile := 255, state := .active }) press = some (.done (.newId 0)) := by
  decide +kernel

theorem test_amend_view :
    ((after (.amendView .line 1 4 { owner := none, trigger := none, firstTile := none, lastTile := some 15, state := none }) press).view 4).map (·.lastTile) = some 15 := by
  decide +kernel

theorem test_retire_view : ((after (.retireView .line 1 4) press).view 4) = none := by decide +kernel

/-- K1 with `n` tiles in its segment. -/
def filled (n : Nat) : State :=
  press.setConsole 1 { consoleOn 1 .operator with slots := List.replicate n { trigger := 2, seq := 100, index := 0, last := false, payload := [] } }

theorem test_tile_raises :
    ((after (.tile 0 5 2 100 23 false (List.replicate 1024 0)) (filled 23)).view 4).map (fun v => (v.thin, v.lastThin)) = some (1, some 100) := by
  decide +kernel

theorem test_tile_full :
    ((after (.tile 0 5 2 100 32 false (List.replicate 1024 0)) (filled 32)).console 1).map (·.slots.length) = some 32 := by decide +kernel

theorem test_hold : ((after (.hold 0 1) press).console 1).bind (·.holdTimer) = some 50 := by decide +kernel

theorem test_go : ((after (.go 0 1) (after (.hold 0 1) press)).console 1).map (·.held) = some false := by decide +kernel

theorem test_hold_expires : ((after (.holdTimerExpiry 1) (after (.hold 0 1) press)).view 4).map (·.state) = some .paused := by decide +kernel

/-! ### Watches, consoles, requests -/

theorem test_watch : ((after (.watch (.console 0 1) 1 4) press).port 0).valueQ = [(1, 4)] := by decide +kernel

theorem test_unwatch : ((after (.unwatch (.console 0 1) 1 4) press).console 1).bind (·.slot) =
    some { kind := 0x31, tag := 1, body := .refused .absent } := by decide +kernel

theorem test_enrol_console : replied (.enrolConsole .line 1 { port := 1, station := 1, rights := .setter, high := none, low := none }) press =
    some (.done (.newId 4)) := by decide +kernel

theorem test_amend_console : replied (.amendConsole .line 1 1 { noConsoleFields with station := some 3 }) press = some (.refused .duplicate) := by
  decide +kernel

theorem test_retire_console : (after (.retireConsole .line 1 1) press).shaftStacks[0] = [] := by decide +kernel

theorem test_read_hub : replied (.read .line 1 .hub 0) press =
    some (.done (.image .hub 0 [⟨0x40, [50]⟩, ⟨0x41, [16, 0]⟩, ⟨0x42, [4]⟩, ⟨0x43, [0]⟩])) := by decide +kernel

theorem test_status_counts :
    ((after (.status .line 1) press).line.slot).map (fun r => match r.body with
      | .done (.status b) => [b.axes, b.units, b.definitions, b.triggers, b.views, b.consoles]
      | _ => []) = some [2, 2, 4, 1, 1, 3] := by decide +kernel

theorem test_restart_moving : replied (.restart .line 1) press = some (.refused .moving) := by decide +kernel

theorem test_amend_hub : (after (.amendHub .line 1 { holdLimit := none, watchBand := none, grace := some 2, failed := none }) press).hub.grace = 2 := by
  decide +kernel

theorem test_busy : ((after (.read (.console 0 1) 18 .shaft 2) (after (.inch (.console 0 1) 17 1 100 2) press)).console 1).bind (·.slot) =
    some { kind := 0x01, tag := 18, body := .refused .busy } := by decide +kernel

/-! ### The SPI port, the ports, reset -/

theorem test_status_byte : (after (.readStatus 1) State.reset).spiOut = [0x20, 0x00] := by decide +kernel

theorem test_write_request :
    ((after (.writeRequest [0x06, 0x00, 0x02, 0x01, 0x02, 0x00, 0x10, 0x00]) State.reset).unit 0).map (·.shaft) = some 0 := by decide +kernel

theorem test_read_reply :
    (after (.readReply 6) (after (.writeRequest [0x06, 0x00, 0x02, 0x01, 0x02, 0x0F, 0x10, 0x00]) State.reset)).spiOut =
      [0x03, 0x04, 0x00, 0x02, 0x01, 0x00, 0x0F] := by decide +kernel

theorem test_transaction_write : decodeTransaction [0x02, 0x04, 0x00] = some (.writeRequest [0x04, 0x00]) := by decide

theorem test_transaction_read : decodeTransaction [0x03, 0x00, 0x00] = some (.readReply 2) := by decide

theorem test_transaction_other : decodeTransaction [0xFF, 0x00] = some (.readStatus 1) := by decide

theorem test_light : ((after (.light 3) press).port 3).state = .aligning := by decide +kernel

theorem test_loss_of_light : (after (.lossOfLight 0) press).trips.map (·.defn) = [0] := by decide +kernel

theorem test_eighth_bad_frame :
    ((after (.badFrame 0) (press.modPort 0 (fun q => { q with badRun := 7 }))).port 0).state = .aligning := by decide +kernel

theorem test_sixteenth_good_frame : ((after (.idle 1 1) (after (.idle 1 1) press)).port 1).state = .up := by decide +kernel

theorem test_unknown_kind : ((after (.unknownKindFrame 0 7 0x55 []) press).console 3).map (·.present) = some true := by decide +kernel

/-- The third choice of the tile-grace example. -/
theorem test_grace :
    ((after (.transmitterFree 0) ((filled 5).modPort 0 (fun q => { q with noticeQ := [1], grace := 4 }))).port 0).grace = 0 := by decide +kernel

/-- A waiting SETPOINT goes before a due tile, which waits on with its count unchanged (R167). -/
theorem test_grace_waits :
    ((after (.transmitterFree 0) ((filled 5).modPort 0 (fun q => { q with grace := 4, setpointQ := [{ station := 2, shaft := 0, cycle := 0, entries := [] }] }))).port 0).grace
      = 4 := by decide +kernel

theorem test_reset_asserted : (after .resetAsserted press).axes = [] := by decide +kernel

theorem test_reset_released : (after .resetReleased (after .resetAsserted press)).attn = true := by decide +kernel

theorem test_parity : (after (.cycleEvent 0) { press with badRecs := [.axis 4] }).failed = true := by decide +kernel

/-- A bad console record met where the inch closes stops the event before the cycle number goes up (R3, R174). -/
theorem test_parity_before_cycle :
    ((after (.cycleEvent 1) { press.setShaft 1 { shaftStanding with state := .inching, v := 65536, vt := 65536, angle := 1048575, inch := some { remaining := 1, requester := none, noted := false, forward := true } } with
      badRecs := [.console 2] }).shaft 1).cycle = 0 := by decide +kernel

/-- A request that meets another console's bad record is answered FAILED (R174). -/
theorem test_parity_reply :
    ((after (.read (.console 0 1) 9 .console 3) { press with badRecs := [.console 3] }).console 1).bind (·.slot) =
      some { kind := 0x01, tag := 9, body := .refused .failed } := by decide +kernel

/-- A demand that stands as it should is read for the comparison (R74, R173). -/
theorem test_parity_demand : (writeDemand 0 { press with badRecs := [.shaft 0] }) = .stopped { press with badRecs := [.shaft 0] } := by decide +kernel

/-- A departure at the low mark looks for the console's views among all views (R122, R173). -/
theorem test_parity_departure :
    (after (.transmitterFree 0) { filled 1 with
      views := [(5, { owner := 2, trigger := 2, firstTile := 0, lastTile := 9, state := .active, thin := 0, lastThin := none })]
      badRecs := [.view 5] }).failed = true := by decide +kernel

/-! ### Witnesses: each shows a state and operands that meet the hypotheses of the statement it is named after -/

/-- The line computer is ready. -/
theorem lineReady {s : State} (least : Rights)
    (h : s.resetPin = false ∧ s.failed = false ∧ s.badRecs = [] ∧ s.reports = [] ∧ s.line.flight = none) : Ready .line 0 least s :=
  ⟨⟨⟨h.1, h.2.1, h.2.2.1⟩, h.2.2.2.1⟩, rfl, h.2.2.2.2, .line, rfl, by cases least <;> decide⟩

/-- K1 is ready. -/
theorem k1Ready {s : State} (least : Rights) (hl : Rights.rank least ≤ 1)
    (h : s.resetPin = false ∧ s.failed = false ∧ s.badRecs = [] ∧ s.reports = [] ∧ (s.port 0).state = .up ∧ consoleAt s 0 1 = some 1 ∧
      flightOf s 1 = none ∧ rightsOf s 1 = some .operator) : Ready (.console 0 1) 1 least s :=
  ⟨⟨⟨h.1, h.2.1, h.2.2.1⟩, h.2.2.2.1⟩, ⟨by decide, by decide, h.2.2.2.2.1, h.2.2.2.2.2.1⟩, h.2.2.2.2.2.2.1, .operator,
    h.2.2.2.2.2.2.2, hl⟩

theorem press_line (least : Rights) : Ready .line 0 least press := lineReady least (by decide)

theorem press_k1 : Ready (.console 0 1) 1 .operator press := k1Ready _ (by decide) (by decide)

theorem press_settled : Settled press := by unfold Settled Quiet; decide

theorem press_tables : TablesOk press := by unfold TablesOk; decide

theorem press_steady : Steady press := settled_steady press_settled

/-- The press with the hub FAILED by a bad word, shafts and axes at rest. -/
def failedPress : State :=
  { press with
    hub := { Hub.reset with condition := .failed }
    shafts := Vector.replicate 4 { Shaft.reset with state := .tripped }
    axes := [(4, { axis4 with engaged := false }), (5, { axis4 with channel := 1, engaged := false })]
    badRecs := [.axis 4] }

theorem failedPress_steady : Steady failedPress := by unfold Steady Awake; decide

theorem failedPress_tables : TablesOk failedPress := by unfold TablesOk; decide

theorem witness_StepRunsFront : State.reset.pending = [] := rfl

theorem witness_SenderRefused :
    (senderOf (.stop (.console 0 15) 1 0) = some (.console 0 15) ∧ press.resetPin = false ∧ press.badRecs = [] ∧ (press.port 0).state = .up ∧
      consoleAt press 0 15 = none) ∧
    Quiet press ∧ SendsAs (.console 0 3) 2 press ∧ flightOf press 2 = none ∧ fieldsFit (.run (.console 0 3) 1 1 5) = true ∧
      rightsOf press 2 = some .viewer ∧ Rights.rank .viewer < Rights.rank (leastRights (.run (.console 0 3) 1 1 5)) := by
  refine ⟨by decide, press_settled.1, ⟨by decide, by decide, by decide, by decide⟩, by decide⟩

theorem witness_BusyOrFailedRefused :
    (SendsAs .line 0 (setFlight 0 (some { kind := 0x13, tag := 1, awaited := some (.shaft 0) }) press) ∧
      flightOf (setFlight 0 (some { kind := 0x13, tag := 1, awaited := some (.shaft 0) }) press) 0 ≠ none) ∧
    failedPress.failed = true ∧ SendsAs (.console 0 1) 1 failedPress ∧ flightOf failedPress 1 = none ∧ (rightsOf failedPress 1).isSome = true ∧
      requestCode (.stop (.console 0 1) 1 0) ≠ 0x38 := by
  refine ⟨⟨rfl, by decide⟩, by decide, ⟨by decide, by decide, by decide, by decide⟩, by decide⟩

theorem witness_MisfitRefused :
    fieldsFit (.amendHub .line 1 { holdLimit := none, watchBand := none, grace := none, failed := none }) = false ∧
    SendsAs (.console 0 1) 1 press ∧ decodeRequest (.console 0 1) [0x55, 0x01] = none ∧
    (press.line.flight = none ∧ press.line.slot = none ∧ 0 + 2 = ofLe [0x02, 0x00] ∧ decodeRequest .line [0x55, 0x01] = none) := by
  refine ⟨by decide, press_k1.2.1, by decide, by decide⟩

theorem witness_BadWordRefused :
    let s := { press with badRecs := [.hub] }
    s.resetPin = false ∧ s.failed = false ∧ SendsAs .line 0 s ∧ flightOf s 0 = none ∧ rightsOf s 0 = some .line :=
  ⟨rfl, by decide, rfl, rfl, rfl⟩

theorem witness_BadWordRefused_entry :
    TablesOk press ∧ (∀ q ∈ press.axes, q.2.lagCause = false) ∧
    AwaitsInch (press.setShaft 1 { shaftStanding with state := .inching, inch := some { remaining := 255, requester := some 0, noted := false, forward := true } })
      0 1 { remaining := 255, requester := some 0, noted := false, forward := true } ∧
    AwaitsTrim (press.setAxis 4 { axis4 with await := some { requester := some 1, noted := false } }) 1 4
      { axis4 with await := some { requester := some 1, noted := false } } :=
  ⟨press_tables, by decide, ⟨by decide, rfl, by decide, by decide⟩, ⟨by decide, ⟨_, rfl, rfl⟩, by decide, by decide⟩⟩

theorem witness_BadWordRefused_reads :
    firstRead (.engage (.console 0 1) 1 63) = some (.axis 63) ∧ fieldsFit (.engage (.console 0 1) 1 63) = true ∧
    SendsAs (.console 0 1) 1 { press with badRecs := [.axis 63] } ∧ Rights.rank (leastRights (.engage (.console 0 1) 1 63)) ≤ Rights.rank .operator ∧
    press.axis 4 = some axis4 ∧ axis4.shaft = 0 ∧ TablesOk { press with badRecs := [.axis 4] } ∧ SpeedsOk { press with badRecs := [.axis 4] } ∧
    AxesOk { press with badRecs := [.axis 4] } ∧ framePort (.go 5 15) = some 5 ∧ (press.console 3).isSome = true ∧ (press.port 0).state = .up ∧
    ((after (.hold 0 1) press).console 1).bind (·.holdTimer) ≠ none ∧ press.tripPins[7] ≠ true ∧ (after .inhibitAsserted press).inhibitPin = true := by
  unfold SendsAs TablesOk SpeedsOk SpeedOk AxesOk AxisOk; decide +kernel

theorem witness_BadWordRefused_orders :
    let s := { press.setDefn 2 (watching (.line 4) (.shaft 3) .halt) with badRecs := [.shaft 3] }
    BringsPresent (.tripLineChange 4 true) s (.line 4) { s with tripPins := s.tripPins.set 4 true } ∧ watcherOf s (.line 4) = some 2 ∧
    s.defn 2 = some (watching (.line 4) (.shaft (3 : ShaftId).val) .halt) ∧ entryOf s 2 = none ∧
    let v := press.setPort 0 { press.port 0 with valueQ := [(1, 4)] }
    (v.port 0).state = .up ∧ (v.port 0).valueQ.head? = some (1, 4) ∧ (∀ q ∈ v.consoles, q.2.slots = []) ∧ TablesOk { v with badRecs := [.axis 4] } :=
  ⟨.inl ⟨4, rfl, by decide, rfl, rfl⟩, by unfold TablesOk; decide⟩

theorem witness_BadWordRefused_frames :
    consoleAt press 0 1 = some 1 ∧ (press.port 0).state = .up ∧ (press.trigger 2).isSome = true ∧ (press.view 4).isSome = true ∧
    (∃ q ∈ press.triggers, q.2.port = 0 ∧ q.2.station = 5) ∧ 2 ∈ press.triggerLists[0] ∧
    1 ≤ (masterAdvance { press.shaft 0 with v := speedStep (press.shaft 0) }).delta ∧
    SpeedsOk { press with badRecs := [.trigger 2] } ∧ AxesOk { press with badRecs := [.trigger 2] } ∧ TablesOk { press with badRecs := [.trigger 2] } ∧
    ((press.setPort 0 { press.port 0 with badRun := 7 }).port 0).badRun = 7 ∧ press.inhibitPin = false := by
  unfold TablesOk SpeedsOk SpeedOk AxesOk AxisOk; decide +kernel

theorem witness_BadWordRefused_later :
    let s := { press with badRecs := [.axis 5] }
    senderOf (.stop (.console 0 1) 1 0) = some (.console 0 1) ∧ SendsAs (.console 0 1) 1 s ∧ flightOf s 1 = none ∧ s.failed = false ∧
    (∀ b ∈ s.badRecs, b ≠ .port 0 ∧ b ≠ .console 1 ∧ b ≠ .watchSet 1 ∧ ∀ k, b ≠ .address k) ∧
    (after (.amendShaft .line 1 0 { period := none, vMax := none, acc := some 1, dn := none, dq := none, inchLimit := none }) s).failed = true := by
  refine ⟨rfl, ⟨by decide, by decide, by decide, by decide⟩, by decide, by decide, by simp, by decide +kernel⟩

theorem witness_SpeedStepRule :
    (0 < shaftRunning.v ∧ shaftRunning.state ≠ .standby) ∧
    ∃ a b : Shaft, a.state = .inching ∧ a.v < 0 ∧ 0 ≤ a.vt ∧ b.state = .inching ∧ b.vt < 0 ∧ b.v < b.vt :=
  ⟨by decide, { Shaft.reset with state := .inching, v := -1 }, { Shaft.reset with state := .inching, v := -2, vt := -1 }, by decide⟩

theorem witness_MasterAdvanceLaw : shaftRunning.v.natAbs ≤ shaftRunning.vMax ∧ shaftRunning.vMax ≤ 8388607 ∧ ∀ v ∈ [(8388607 : Int), -8388607], v.natAbs ≤ 8388607 := by
  decide

theorem witness_CycleEventTurnsShaft :
    Steady press ∧ TablesOk press ∧ (∀ q ∈ press.axes, q.2.shaft = 0 → lossRises q.2 = false) ∧
    Steady failedPress ∧ TablesOk failedPress ∧ FailedOk failedPress :=
  ⟨press_steady, press_tables, by decide, failedPress_steady, failedPress_tables, by unfold FailedOk; decide⟩

theorem witness_CycleEventStepsAxes :
    SpeedsOk press ∧ AxesOk press ∧ SpeedsOk failedPress ∧ AxesOk failedPress ∧ FailedOk failedPress ∧
    (framesOfEvent 0 1 failedPress.axes 0).map (fun f => f.entries.map (·.enable)) = [[false, false]] := by
  unfold SpeedsOk SpeedOk AxesOk AxisOk FailedOk; decide +kernel

/-- The press with X4 one trim step before an awaited T, watched by K1, whose last-sent trim lies `last` counts from it. -/
def arriving (last : Int) : State :=
  { press.setAxis 4 { axis4 with t := 16, await := some { requester := some 1, noted := true } } with
    consoles := [(1, { consoleOn 1 .operator with
      flight := some { kind := 0x03, tag := 7, awaited := some (.axis 4) }
      watches := [{ axis := 4, pending := false, lastTrim := some last, lastLag := none }] })] }

theorem witness_CycleEventStepsAxes_arrival :
    let delta := (masterAdvance { (arriving 0).shaft 0 with v := speedStep ((arriving 0).shaft 0) }).delta
    let a : Axis := { axis4 with t := 16, await := some { requester := some 1, noted := true } }
    Steady (arriving 0) ∧ TablesOk (arriving 0) ∧ SpeedsOk (arriving 0) ∧ AxesOk (arriving 0) ∧ (flightOf (arriving 0) 1).isSome = true ∧
    AwaitsTrim (arriving 0) 1 4 a ∧ (steppedAxis delta a).c = a.t ∧
    stepMarks (arriving 0) 0 delta { axis := 4, pending := false, lastTrim := some 0, lastLag := none } = true ∧
    stepMarks (arriving 1) 0 delta { axis := 4, pending := false, lastTrim := some 1, lastLag := none } = false :=
  ⟨by unfold Steady Awake; decide, by unfold TablesOk; decide, by unfold SpeedsOk SpeedOk; decide, by unfold AxesOk AxisOk; decide, by decide,
    ⟨by decide, ⟨_, rfl, rfl⟩, by decide, by decide⟩, by decide +kernel⟩

theorem witness_StopEndsAtRest :
    let a := { shaftStanding with state := .stopping, inch := some { remaining := 0, requester := some 1, noted := true, forward := true } }
    ((press.setShaft 1 a).shaft 1).v = 0 ∧ (press.setShaft 1 a).badRecs = [] ∧ ((press.setShaft 1 a).shaft 1).state = .stopping ∧
    ((press.setShaft 1 { a with state := .tripStopping }).shaft 1).state = .tripStopping := by decide

theorem witness_GearLaw : -8388608 ≤ axis4.gearN ∧ axis4.gearN ≤ 8388607 ∧ axis4.shift ≤ 24 ∧ axis4.rem < 2 ^ axis4.shift ∧
    ∀ d ∈ [(32768 : Int), -32768], -32768 ≤ d ∧ d ≤ 32768 := by decide

theorem witness_RunAndSpeedTables :
    Ready (.console 0 1) 1 .operator press ∧ holderCheck press 1 (.shaft 1) = none ∧ (press.shaft 1).state = .standby ∧ 0 < (press.shaft 1).vMax ∧
    holderCheck press 1 (.shaft 0) = none ∧ (press.shaft 0).state = .running ∧
    Ready .line 0 .operator press :=
  ⟨press_k1, by decide, by decide, by decide, by decide, by decide, press_line _⟩

theorem witness_StopTable :
    Ready (.console 0 3) 2 .viewer press ∧ (press.shaft 0).state = .running ∧ (failedPress.failed = true ∧ SendsAs (.console 0 1) 1 failedPress) :=
  ⟨⟨press_settled, ⟨by decide, by decide, by decide, by decide⟩, by decide, .viewer, by decide, by decide⟩, by decide, by decide,
    by decide, by decide, by decide, by decide⟩

theorem witness_InchTable :
    Ready (.console 0 1) 1 .operator press ∧ holderCheck press 1 (.shaft 1) = none ∧ (press.shaft 1).state = .standby ∧ 0 < (press.shaft 1).inchLimit :=
  ⟨press_k1, by decide⟩

theorem witness_AmendShaftWhole :
    let f : ShaftFields := { period := none, vMax := some 655488, acc := none, dn := none, dq := none, inchLimit := none }
    Ready .line 0 .line press ∧ fieldsFit (.amendShaft .line 1 0 f) = true ∧
    (editShaft (gearsOf press 0) f (press.shaft 0)).toOption.isSome = true ∧
    editShaft (gearsOf press 0) { f with vMax := some 655487 } (press.shaft 0) = .error .moving :=
  ⟨press_line _, by decide +kernel⟩

theorem witness_EnrolAxisTaken :
    Ready .line 0 .line press ∧ NextAxis press 0 ∧ (∃ un, press.unit 0 = some un ∧ un.shaft = 0) ∧ (press.defn 0).isSome = true ∧
    (∀ q ∈ press.axes, ¬ (q.2.port = 1 ∧ q.2.station = 15 ∧ q.2.channel = 1)) ∧ (2047 : Int).natAbs * ((press.shaft 0).vMax / 256 + 1) ≤ 2 ^ (0 + 23) :=
  ⟨press_line _, ⟨by decide, by decide, by omega⟩, ⟨_, rfl, rfl⟩, by decide⟩

/-- Every axis id in use. -/
def fullPress : State := { press with axes := (List.range 64).map (fun x => (x, axis4)) }

theorem witness_EnrolAxisTaken_full : Ready .line 0 .line fullPress ∧ ∀ y, y < 64 → (fullPress.axis y).isSome = true :=
  ⟨lineReady _ (by decide), by decide +kernel⟩

theorem witness_EnrolAxisTaken_refused :
    Ready .line 0 .line press ∧ NextAxis press 0 ∧ press.unit 15 = none ∧ press.defn 31 = none ∧ (press.unit 1).map (·.shaft) ≠ some 0 ∧
    (∃ q ∈ press.axes, q.2.port = 0 ∧ q.2.station = 2 ∧ q.2.channel = 0) ∧ (press.defn 3).map (·.src) ≠ some .lag ∧
    2 ^ (0 + 23) < (2048 : Int).natAbs * ((press.shaft 0).vMax / 256 + 1) :=
  ⟨press_line _, ⟨by decide, by decide, by omega⟩, by decide⟩

theorem witness_AmendAxisFields :
    Ready (.console 0 1) 1 (leastRights (.amendAxis (.console 0 1) 1 4 { noAxisFields with trim := some 524287 })) press ∧
    fieldsFit (.amendAxis (.console 0 1) 1 4 { noAxisFields with trim := some 524287 }) = true ∧ holderCheck press 1 (.unit axis4.unit) = none ∧
    press.axis 4 = some axis4 ∧ press.axis 63 = none ∧ editAxis press 5 { noAxisFields with slew := some 1, window := some 256 } axis4 = .error .range ∧
    (press.shaft 0).v ≠ 0 ∧ (press.shaft 1).v = 0 :=
  ⟨press_k1, by decide +kernel⟩

theorem witness_AmendAxisFields_settings :
    fieldsFit (.amendAxis .line 1 5 { noAxisFields with lagLimit := some 8388607 }) = true ∧ press.defn 0 ≠ none ∧ press.defn 31 = none ∧
    (press.defn 3).map (·.src) ≠ some .lag ∧ (press.axis 5).map (fun a => (a.engaged, a.lagCause, a.lossCause, a.shaft)) = some (false, false, false, 1) ∧
    (∃ q ∈ press.axes, q.1 ≠ 5 ∧ q.2.port = 0 ∧ q.2.station = 2 ∧ q.2.channel = 0) ∧
    (¬ ∃ q ∈ press.axes, q.1 ≠ 5 ∧ q.2.port = 5 ∧ q.2.station = 15 ∧ q.2.channel = 1) ∧ (press.shaft 2).v = 0 ∧ press.unit 15 = none ∧
    (press.unit 1).map (·.shaft) = some 1 ∧ axis4.gearN.natAbs * ((press.shaft 1).vMax / 256 + 1) ≤ 2 ^ (axis4.shift + 23) := by decide

theorem witness_AmendAxisFields_shaft :
    Ready .line 0 (leastRights (.amendAxis .line 1 5 { noAxisFields with shaft := some 3 })) press ∧
    fieldsFit (.amendAxis .line 1 5 { noAxisFields with shaft := some 3 }) = true ∧ holderCheck press 0 (.unit 1) = none ∧
    (press.axis 5).map (fun a => (decide (a.unit ≤ 15), a.engaged)) = some (true, false) ∧ (press.shaft 1).v = 0 ∧ (press.shaft 0).v ≠ 0 :=
  ⟨press_line _, by decide⟩

theorem witness_AmendAxisAwaited :
    Ready .line 0 (leastRights (.amendAxisAwait .line 1 4 { noAxisFields with trim := some 50 })) press ∧ press.axis 4 = some axis4 ∧
    axis4.engaged = true ∧ axis4.c ≠ 50 ∧ (press.axis 5).map (·.engaged) = some false :=
  ⟨press_line _, by decide⟩

theorem witness_EngageTable :
    Ready .line 0 .operator press ∧ (press.axis 5).map (fun a => (a.engaged, (press.shaft a.shaft).v, (a.x - a.w).toInt.natAbs)) = some (false, 0, 9603) ∧
    (∀ x a, ¬ HaltCovered press x a) ∧
    HaltCovered (after (.tripLineChange 4 true) press) 5 { axis4 with shaft := 1 } :=
  ⟨press_line _, by decide, fun _ _ ⟨_, h, _⟩ => by simp [press, State.reset] at h,
    raisedEntry 2 [0, 1, 2, 3] [] (.line 4), by decide +kernel, { watching (.line 4) .all .halt with cause := true }, by decide +kernel, rfl,
    .inl ⟨rfl, by decide⟩⟩

theorem witness_ReleaseTable :
    Ready (.console 0 1) 1 .operator press ∧ holderCheck press 1 (.unit axis4.unit) = none ∧ axis4.engaged = true ∧ axis4.lagCause = false ∧
    ((press.setAxis 4 { axis4 with lagCause := true }).axis 4).map (·.lagCause) = some true :=
  ⟨press_k1, by decide⟩

theorem witness_RetireAxisTaken :
    Ready .line 0 .line press ∧ (press.axis 5).map (fun a => (a.engaged, a.lagCause, a.lossCause)) = some (false, false, false) ∧
    (∀ e ∈ press.trips, 5 ∉ e.sourceAxes) ∧
    ((press.setAxis 5 { axis4 with engaged := false, lossCause := true }).axis 5).map (fun a => (a.engaged, a.lossCause)) = some (false, true) :=
  ⟨press_line _, by decide⟩

theorem witness_FeedbackStored :
    Steady press ∧ axisAt press 0 2 1 = some 5 ∧ axisAt press 0 2 2 = none ∧ (∀ q ∈ press.axes, ¬ (q.2.port = 0 ∧ q.2.station = 15)) ∧
    (press.axis 5).map (fun a => a.lagCause = (a.engaged && decide (a.lagLimit ≠ 0 ∧ a.lagLimit < (8388607 : Int).natAbs))) = some True :=
  ⟨press_steady, by decide, by decide, by decide, by simp [press, State.axis, tblGet, axis4, List.lookup]⟩

theorem witness_FeedbackStored_reports :
    let r : Report := { axis := 4, kind := .lag, defn := 31, present := false }
    let s := { press with reports := [r, r] }
    s.reports = r :: [r] ∧ takeReport r { s with reports := [r] } = .on { s with reports := [r] } := by decide +kernel

theorem witness_FeedbackStored_frame :
    Steady press ∧ TablesOk press ∧ (press.port 0).state = .up ∧ ∃ t, exec (.feedback 0 2 [{ channel := 1, y := 500260, e := 8388607 }]) press = .next t :=
  ⟨press_steady, press_tables, by decide, _, rfl⟩

theorem witness_FeedbackStored_failed :
    Steady failedPress ∧ TablesOk failedPress ∧ (failedPress.port 0).state = .up ∧ axisAt failedPress 0 2 1 = some 5 ∧
    (failedPress.axis 5).map (fun a => (a.engaged, a.lagCause, a.lossCause)) = some (false, false, false) :=
  ⟨failedPress_steady, failedPress_tables, by decide⟩

theorem witness_DefinitionRequests :
    Ready .line 0 .line press ∧ NextDefinition press 4 ∧ press.defn 31 = none ∧
    entryOf press 3 = none ∧ (press.defn 3).map (·.held) = some false ∧ (∀ q ∈ press.axes, q.2.lagDef ≠ 3 ∧ q.2.lossDef ≠ 3) :=
  ⟨press_line _, ⟨by decide, by decide, by decide, by decide⟩, by decide⟩

/-- The press with TRIPIN7 at its trip level. -/
def lineSeven : State := { press with tripPins := press.tripPins.set 7 true, unmatched := [.line 7] }

theorem witness_DefinitionRequests_sources :
    ¬ DefMisfit (.line 7) .all ∧ DefMisfit (.line 8) .all ∧ DefMisfit (.line 7) .source ∧ ¬ DefMisfit (.station 5 15 255) (.shaft 3) ∧
    WatchedTwice press 4 (.line 3) ∧ ¬ WatchedTwice press 4 (.line 7) ∧ ¬ WatchedTwice press 3 (.station 0 9 12) ∧
    ¬ Standing press (.line 7) ∧ Standing lineSeven (.line 7) ∧ ¬ Standing press (.station 0 9 12) ∧ Ready .line 0 .line lineSeven ∧
    CatchAllOk lineSeven ∧ fieldsFit (.amendDefinition .line 1 3 { noDefFields with kind := some .line, line := some 7 }) = true := by
  refine ⟨by simp [DefMisfit], by simp [DefMisfit], by simp [DefMisfit], by simp [DefMisfit], ⟨by decide, by decide, by decide, by decide⟩,
    fun h => absurd h.2.2.2 (by decide), fun h => absurd h.2.2.2 (by decide), ?_, ⟨7, rfl, by decide⟩, by simp [Standing, press, State.reset],
    lineReady _ (by decide), ⟨_, rfl, by decide⟩, by decide⟩
  show ¬ ∃ i : Fin 8, i.val = 7 ∧ press.tripPins[i.val] = true
  decide

theorem witness_DefinitionRequests_halt :
    TablesOk lineSeven ∧ CatchAllOk lineSeven ∧ NextDefinition lineSeven 4 ∧ ¬ WatchedTwice lineSeven 4 (.line 7) ∧
    ReleasedBy (watching (.line 7) (.unit 0) .halt) [0] [] 4 axis4 ∧ ¬ ReleasedBy (watching (.line 7) (.unit 0) .halt) [0] [] 5 { axis4 with unit := 1 } ∧
    (∀ q ∈ lineSeven.axes, q.2.lagCause = false) :=
  ⟨by unfold TablesOk; decide, ⟨_, rfl, by decide⟩, ⟨by decide, by decide, by decide, by decide⟩, fun h => absurd h.2.2.2 (by decide),
    ⟨rfl, .inl rfl⟩, by simp [ReleasedBy, watching, axis4], by decide⟩

theorem witness_SourcePresentTaken :
    Steady press ∧
    BringsPresent (.tripLineChange 3 true) press (.line 3) { press with tripPins := press.tripPins.set 3 true } ∧
    BringsPresent (.raiseTrip 0 9 12) press (.station 0 9 12) (arrived (.console 0 9) press) ∧
    watcherOf press (.line 3) = some 1 ∧ entryOf press 1 = none ∧ watcherOf press (.line 4) = some 2 ∧ watcherOf press (.line 7) = none ∧
    press.unmatched = [] ∧ entryOf press 0 = none ∧ CatchAllOk press :=
  ⟨press_steady, .inl ⟨3, rfl, by decide, rfl, rfl⟩, .inr ⟨0, 9, 12, rfl, by decide, by decide, rfl, by decide, rfl⟩, by decide, by decide,
    by decide, by decide, by decide, by decide, _, rfl, by decide⟩

/-- The press with an entry of D3 CLEARED, whose scope is SOURCE, D1 of kind LAG for X4, and 16 sources in the unmatched-source set. -/
def crowded : State :=
  { press.setDefn 3 (watching (.station 0 2 12) .source .quick) with
    trips := [{ raisedEntry 3 [] [] (.station 0 2 12) with state := .cleared }]
    unmatched := (List.range 16).map (Source.station 5 15) }

theorem witness_SourcePresentTaken_more :
    TablesOk press ∧ Steady crowded ∧ TablesOk crowded ∧ CatchAllOk crowded ∧
    BringsPresent (.raiseTrip 0 2 12) crowded (.station 0 2 12) (arrived (.console 0 2) crowded) ∧ watcherOf crowded (.station 0 2 12) = some 3 ∧
    (entryOf crowded 3).map (·.state) = some .cleared ∧ sourceAxesOf crowded (watching (.station 0 2 12) .source .quick) = [4, 5] ∧
    BringsPresent (.tripLineChange 7 true) crowded (.line 7) { crowded with tripPins := crowded.tripPins.set 7 true } ∧
    watcherOf crowded (.line 7) = none ∧ crowded.unmatched.length = 16 ∧ .line 7 ∉ crowded.unmatched ∧
    ReleasedBy (watching (.line 4) .all .halt) [0, 1, 2, 3] [] 4 axis4 ∧ axis4.engaged = true :=
  ⟨press_tables, by unfold Steady Awake; decide, by unfold TablesOk; decide, ⟨_, rfl, by decide⟩,
    .inr ⟨0, 2, 12, rfl, by decide, by decide, rfl, by decide, rfl⟩, by decide, by decide, by decide, .inl ⟨7, rfl, by decide, rfl, rfl⟩,
    by decide, by decide, by decide, ⟨rfl, .inr (.inr ⟨.inl rfl, by decide⟩)⟩, rfl⟩

theorem witness_SourcePresentTaken_report :
    let s := press.setDefn 3 (watching .lag .source .halt)
    let t := press.setDefn 3 { watching .lag .source .halt with presentAxes := [5], cause := true }
    Awake s ∧ TablesOk s ∧ (s.defn 3).map (·.presentAxes) = some [] ∧ entryOf s 3 = none ∧ (t.defn 3).map (·.presentAxes) = some [5] ∧ 5 ≠ 4 := by
  unfold Awake TablesOk; decide

theorem witness_SourcePresentTaken_failed :
    Steady failedPress ∧ TablesOk failedPress ∧ CatchAllOk failedPress ∧
    BringsPresent (.tripLineChange 4 true) failedPress (.line 4) { failedPress with tripPins := failedPress.tripPins.set 4 true } ∧
    watcherOf failedPress (.line 4) = some 2 ∧ entryOf failedPress 2 = none ∧ (failedPress.defn 2).map (·.category) = some .halt ∧
    (∀ q ∈ failedPress.axes, q.2.lagCause = false) :=
  ⟨failedPress_steady, failedPress_tables, ⟨_, rfl, by decide⟩, .inl ⟨4, rfl, by decide, rfl, rfl⟩, by decide⟩

/-- The press with the entry of D1 in a state, its line at the trip level. -/
def tripped (st : EntryState) : State :=
  { press with
    tripPins := press.tripPins.set 3 true
    trips := [{ raisedEntry 1 [0] [] (.line 3) with state := st }]
    unmatched := [.line 7, .station 0 1 3] }

theorem witness_SourceAbsentTaken :
    Steady (tripped .acked) ∧
    BringsAbsent (.tripLineChange 3 false) (tripped .acked) (.line 3) { tripped .acked with tripPins := (tripped .acked).tripPins.set 3 false } ∧
    watcherOf (tripped .acked) (.line 3) = some 1 ∧ Awake (tripped .acked) ∧ (entryOf (tripped .acked) 1).map (·.state) = some .acked ∧
    (entryOf (tripped .raised) 1).map (·.state) = some .raised ∧
    BringsAbsent (.dropTrip 0 1 3) (tripped .raised) (.station 0 1 3) (arrived (.console 0 1) (tripped .raised)) ∧
    ∃ o ∈ (tripped .raised).unmatched, o ≠ .station 0 1 3 :=
  ⟨by unfold Steady Awake; decide, .inl ⟨3, rfl, by decide, rfl, rfl⟩, by decide, by unfold Awake; decide, by decide, by decide,
    .inr (.inl ⟨0, 1, 3, rfl, by decide, by decide, rfl, by decide, rfl⟩), by decide⟩

theorem witness_SourceAbsentTaken_failed :
    let s := { failedPress with tripPins := failedPress.tripPins.set 3 true, trips := [{ raisedEntry 1 [0] [] (.line 3) with state := .acked }] }
    Steady s ∧ BringsAbsent (.tripLineChange 3 false) s (.line 3) { s with tripPins := s.tripPins.set 3 false } ∧ watcherOf s (.line 3) = some 1 ∧
    (entryOf s 1).map (·.state) = some .acked :=
  ⟨by unfold Steady Awake; decide, .inl ⟨3, rfl, by decide, rfl, rfl⟩, by decide⟩

theorem witness_SourceAbsentTaken_link :
    let s := { press.setPort 5 { Port.reset with state := .aligning, goodRun := 15 } with
      linkSeen := press.linkSeen.set 5 true, unmatched := [.link 5] }
    Steady s ∧ (∃ s0, BringsAbsent (.idle 5 15) s (.link 5) s0) ∧ watcherOf s (.link 5) = none ∧ .link 5 ∈ s.unmatched ∧
    (∀ o ∈ s.unmatched, o = .link 5) ∧ s.overflow = false ∧ (s.defn 0).isSome = true :=
  ⟨by unfold Steady Awake; decide, ⟨_, .inr (.inr ⟨5, .inl rfl, by decide, by decide, by decide, rfl, rfl⟩)⟩, by decide⟩

theorem witness_InhibitRule :
    Steady press ∧ (∀ q ∈ press.defs, q.2.held = false) ∧ Steady failedPress ∧ (∀ q ∈ failedPress.defs, q.2.held = false) ∧
    let s := { press.setDefn 1 { watching (.line 3) (.shaft 0) .ramp with held := true } with inhibitPin := true }
    Steady s ∧ s.inhibitPin = true ∧ tblFind (fun g => g.held) s.defs = [1] ∧ entryOf s 1 = none :=
  ⟨press_steady, by decide, failedPress_steady, by decide, by unfold Steady Awake; decide, rfl, by decide, by decide⟩

theorem witness_InhibitRule_several :
    let s := { (press.setDefn 1 { watching (.line 3) (.shaft 0) .ramp with held := true }).setDefn 2
      { watching (.line 4) .all .halt with held := true } with inhibitPin := true }
    Steady s ∧ TablesOk s ∧ tblFind (fun g => g.held) s.defs = [1, 2] ∧ s.trips = [] ∧
    ReleasedBy { watching (.line 4) .all .halt with held := true } [0, 1, 2, 3] [] 4 axis4 ∧ (∀ q ∈ s.axes, q.2.lagCause = false) :=
  ⟨by unfold Steady Awake; decide, by unfold TablesOk; decide, by decide, rfl, ⟨rfl, .inr (.inr ⟨.inl rfl, by decide⟩)⟩, by decide⟩

theorem witness_DemandTaken :
    (∃ a : Shaft, a.demand = .ramp ∧ a.state = .tripped) ∧ (press.shaft 0).demand = .none ∧ (press.shaft 0).state = .running ∧ (press.shaft 1).state = .standby ∧ press.failed = false ∧
    (failedPress.failed = true ∧ (failedPress.shaft 0).state = .tripped) :=
  ⟨⟨{ Shaft.reset with demand := .ramp, state := .tripped }, rfl, rfl⟩, by decide⟩

theorem witness_AcknowledgeTables :
    Ready .line 0 .operator (tripped .cleared) ∧ entryOf press 31 = none ∧ (entryOf (tripped .cleared) 1).map (·.state) = some .cleared ∧
    Ready .line 0 .operator press ∧ TablesOk (tripped .raised) ∧ press.trips.all (fun e => decide (e.state = .acked)) = true :=
  ⟨lineReady _ (by decide), by decide, by decide, press_line _, by unfold TablesOk; decide, by decide⟩

theorem witness_UnitRequests :
    Ready .line 0 .line press ∧ press.unit 15 = none ∧ (press.unit 0).isSome = true ∧ (∃ q ∈ press.axes, q.2.unit = 0) ∧
    (press.setAxis 5 axis4).unit 1 = some { shaft := 1, stack := [] } ∧ (∀ q ∈ (press.setAxis 5 axis4).axes, q.2.unit ≠ 1) :=
  ⟨press_line _, by decide⟩

theorem witness_GrantTable :
    Ready (.console 0 1) 1 .operator press ∧ Ready .line 0 .operator press ∧ cpInRange (.shaft 3) = true ∧ cpInRange (.unit 16) = false ∧
    stackOf press (.shaft 3) = some [] ∧ stackOf press (.unit 15) = none ∧ stackOf press (.shaft 0) = some [1] ∧ holderOf [1] = some 1 ∧
    rightsRank press 1 < rightsRank press 0 ∧ (rightsOf press 2 = some .viewer ∧ SendsAs (.console 0 3) 2 press) :=
  ⟨press_k1, press_line _, by decide, by decide, by decide, by decide, by decide, by decide, by decide, by decide, by decide, by decide,
    by decide, by decide⟩

theorem witness_YieldTable :
    Ready (.console 0 1) 1 .operator press ∧ stackOf press (.unit 0) = some [1] ∧ holderOf [1] = some 1 ∧
    Ready .line 0 .operator press ∧ 0 ∉ [1] ∧ stackOf (setStack (.shaft 3) [0, 1] press) (.shaft 3) = some [0, 1] ∧ holderOf [0, 1] ≠ some 0 :=
  ⟨press_k1, by decide, by decide, press_line _, by decide⟩

theorem witness_HolderChecked :
    senderOf (.run (.console 0 1) 1 3 5) = some (.console 0 1) ∧ Ready (.console 0 1) 1 (leastRights (.run (.console 0 1) 1 3 5)) press ∧
    checkedPoint press (.run (.console 0 1) 1 3 5) = some (.shaft 3) ∧ stackOf press (.shaft 3) = some [] ∧
    stackOf (setStack (.shaft 3) [0] press) (.shaft 3) = some [0] :=
  ⟨rfl, press_k1, by decide⟩

theorem witness_TriggerRequests :
    Ready .line 0 .line press ∧ press.trigger 0 = none ∧ press.trigger 47 = none ∧ press.trigger 2 = some trigger2 ∧
    (∃ q ∈ press.views, q.2.trigger = 2) ∧ (∀ q ∈ ({ press with views := [] } : State).views, q.2.trigger ≠ 2) ∧
    fieldsFit (.amendTrigger .line 1 2 { shaft := none, port := none, station := none, angle := none, divider := some 64, enabled := none }) = true ∧
    holderCheck press 0 (.shaft 0) = none ∧
    editTrigger { shaft := none, port := none, station := none, angle := none, divider := some 65, enabled := none } trigger2 = .error .range :=
  ⟨press_line _, by decide⟩

theorem witness_TriggerRequests_placement :
    Ready .line 0 (leastRights (.amendTrigger .line 1 2 { shaft := some 3, port := none, station := none, angle := none, divider := none, enabled := none })) press ∧
    fieldsFit (.amendTrigger .line 1 2 { shaft := some 3, port := none, station := none, angle := none, divider := none, enabled := none }) = true ∧
    fieldsFit (.amendTrigger .line 1 2 { shaft := none, port := some 5, station := some 15, angle := none, divider := none, enabled := none }) = true :=
  ⟨press_line _, by decide⟩

theorem witness_TriggerPassed :
    press.badRecs = [] ∧ press.trigger 2 = some trigger2 ∧ (masterAdvance shaftRunning).delta = 2561 ∧
    (trigger2.angle.toNat + (1048576 - (masterAdvance shaftRunning).before.toNat)) % 1048576 = 1576 ∧ (press.port 0).strobeQ.length < 8 ∧
    examined (masterAdvance shaftRunning) trigger2 = true ∧ countsPast { trigger2 with angle := 1048575 } 1048575 = 0 ∧
    failedPress.resetPin = false ∧ failedPress.failed = true := by decide

theorem witness_ViewRequests :
    Ready (.console 0 1) 1 .viewer press ∧ press.view 4 = some { owner := 1, trigger := 2, firstTile := 0, lastTile := 39, state := .active, thin := 0, lastThin := none } ∧
    press.view 0 = none ∧ press.view 23 = none ∧ (press.trigger 2).isSome = true ∧ (press.console 1).isSome = true ∧
    fieldsFit (.enrolView (.console 0 1) 1 { owner := none, trigger := 2, firstTile := 255, lastTile := 255, state := .active }) = true ∧
    fieldsFit (.amendView .line 1 4 { owner := none, trigger := none, firstTile := some 0, lastTile := some 255, state := none }) = true :=
  ⟨k1Ready _ (by decide) (by decide), by decide⟩

theorem witness_ViewRequests_trigger :
    fieldsFit (.amendView .line 1 4 { owner := none, trigger := some 47, firstTile := none, lastTile := none, state := none }) = true ∧
    fieldsFit (.amendView .line 1 4 { owner := some 1, trigger := none, firstTile := none, lastTile := none, state := none }) = true ∧
    fieldsFit (.enrolView .line 1 { owner := some 9, trigger := 48, firstTile := 256, lastTile := 255, state := .active }) = true ∧
    press.trigger 47 = none ∧ (press.trigger 2).isSome = true ∧ Ready .line 0 .viewer press :=
  ⟨by decide, by decide, by decide, by decide, by decide, press_line _⟩

theorem witness_TileTaken :
    press.resetPin = false ∧ press.badRecs = [] ∧ (press.port 0).state = .up ∧ (∃ q ∈ press.triggers, q.2.port = 0 ∧ q.2.station = 5) ∧
    press.failed = false ∧ (List.replicate 1024 (0 : Byte)).length = 1024 ∧ (press.trigger 2).isSome = true ∧ TablesOk press ∧
    Matches { owner := 1, trigger := 2, firstTile := 0, lastTile := 39, state := .active, thin := 0, lastThin := none } 2 100 39 :=
  ⟨rfl, rfl, by decide, by decide, by decide, List.length_replicate .., by decide, press_tables, by unfold Matches; decide⟩

theorem witness_HoldGoExpiry :
    (press.port 0).state = .up ∧ consoleAt press 0 15 = none ∧ consoleAt press 0 1 = some 1 ∧ ((arrived (.console 0 1) press).console 1).map (·.held) = some false ∧
    ((after (.hold 0 1) press).console 1).map (·.holdTimer.isSome) = some true := by decide +kernel

theorem witness_WatchRequests :
    Ready .line 0 .viewer press ∧ Ready (.console 0 1) 1 .viewer press ∧
    (((taken (.console 0 1) 1 0x30 1 press).console 1).map (·.watches) = some []) ∧ (press.axis 4).isSome = true ∧ press.axis 63 = none ∧
    (((taken (.console 0 1) 1 0x31 1 (after (.watch (.console 0 1) 1 4) press)).console 1).map (fun c => c.watches.map (·.axis))) = some [4] :=
  ⟨press_line _, k1Ready _ (by decide) (by decide), by decide +kernel⟩

theorem witness_ConsoleRequests :
    Ready .line 0 .line press ∧ press.console 4 = none ∧ (∀ y, 1 ≤ y → y < 4 → (press.console y).isSome = true) ∧ MarksFit 32 31 ∧ MarksFit 1 0 ∧ ¬ MarksFit 33 0 ∧
    (press.console 1).map (·.station) = some 1 ∧ TablesOk press ∧ fieldsFit (.amendConsole .line 1 1 { noConsoleFields with port := some 5 }) = true :=
  ⟨press_line _, by decide, by decide, by unfold MarksFit; decide, by unfold MarksFit; decide, by unfold MarksFit; decide, by decide, press_tables,
    by decide⟩

theorem witness_ConsoleRequests_address :
    AddressTaken press 1 0 3 ∧ ¬ AddressTaken press 1 5 1 ∧ (press.console 1).map (·.present) = some true ∧ (press.port 5).state ≠ .up ∧
    (press.console 3).map (·.present) = some false := by
  unfold AddressTaken; decide

theorem witness_ConsoleRequests_retired :
    ¬ AddressTaken press 1 0 15 ∧ (press.console 1).map (fun c => (c.rights, c.high, c.low)) = some (.operator, 24, 8) ∧ MarksFit 24 8 ∧
    fieldsFit (.amendConsole .line 1 1 { noConsoleFields with station := some 15 }) = true ∧ Holds 1 press ∧ ¬ Holds 2 press :=
  ⟨by unfold AddressTaken; decide, by decide, by unfold MarksFit; decide, by decide, .inr ⟨1, by decide⟩, by unfold Holds; decide⟩

theorem witness_ReadImages :
    Ready .line 0 .viewer press ∧ fieldsFit (.read .line 1 .hub 0) = true ∧ (press.axis 4).isSome = true ∧ press.axis 63 = none ∧ press.unit 15 = none ∧
    ((taken .line 0 0x01 1 (after (.hold 0 1) press)).console 1).bind (·.holdTimer) = some 50 :=
  ⟨press_line _, by decide +kernel⟩

theorem witness_StatusAnswered :
    failedPress.resetPin = false ∧ failedPress.failed = true ∧ SendsAs (.console 0 1) 1 failedPress ∧ flightOf failedPress 1 = none ∧
    (rightsOf failedPress 1).isSome = true ∧ TablesOk failedPress :=
  ⟨rfl, by decide, ⟨by decide, by decide, by decide, by decide⟩, by decide, by decide, by unfold TablesOk; decide⟩

/-- The press with S0 at rest. -/
def resting : State := press.setShaft 0 shaftStanding

theorem witness_RestartAndHub :
    Ready .line 0 .line press ∧ (∃ sh : ShaftId, (press.shaft sh).v ≠ 0) ∧ Ready .line 0 .line resting ∧ (∀ sh : ShaftId, (resting.shaft sh).v = 0) ∧
    TablesOk resting ∧ CatchAllOk resting ∧ (∀ q ∈ resting.axes, q.2.lagCause = false) ∧
    fieldsFit (.amendHub .line 1 { holdLimit := some 255, watchBand := some 65535, grace := some 15, failed := none }) = true :=
  ⟨press_line _, ⟨0, by decide⟩, lineReady _ (by decide), by decide, by unfold TablesOk; decide, ⟨_, rfl, by decide⟩, by decide, by decide⟩

/-- The press at rest with an inch of S1 that K1 awaits, D2 of scope ALL and category HALT present, and a lag cause of X4 under D3. -/
def restartable : State :=
  { ((resting.setShaft 1 { shaftStanding with
      inch := some { remaining := 255, requester := some 1, noted := false, forward := true } }).setConsole 1 { consoleOn 1 .operator with
      flight := some { kind := 0x13, tag := 7, awaited := some (.shaft 1) } }).setAxis 4 { axis4 with lagCause := true, lagDef := 3 } with
    defs := [(0, .catchAll), (2, { watching (.line 4) .all .halt with cause := true }),
      (3, { watching .lag .source .quick with cause := true, presentAxes := [4] })] }

theorem witness_RestartAndHub_cuts :
    Ready .line 0 .line restartable ∧ (∀ sh : ShaftId, (restartable.shaft sh).v = 0) ∧ TablesOk restartable ∧ CatchAllOk restartable ∧
    (flightOf restartable 1).isSome = true ∧ AwaitsInch restartable 1 1 { remaining := 255, requester := some 1, noted := false, forward := true } ∧
    AwaitsTrim (resting.setAxis 4 { axis4 with await := some { requester := some 1, noted := false } }) 1 4
      { axis4 with await := some { requester := some 1, noted := false } } ∧
    reentered restartable = [2, 3] ∧ ReleasedBy { watching (.line 4) .all .halt with cause := true } [0, 1, 2, 3] [] 4 axis4 ∧
    (restartable.axis 4).map (fun a => (a.engaged, a.lagCause)) = some (true, true) :=
  ⟨lineReady _ (by decide), by decide, by unfold TablesOk; decide, ⟨_, rfl, by decide⟩, by decide, ⟨by decide, rfl, by decide, by decide⟩,
    ⟨by decide, ⟨_, rfl, rfl⟩, by decide, by decide⟩, by decide, ⟨rfl, .inr (.inr ⟨.inl rfl, by decide⟩)⟩, by decide⟩

theorem test_restart_cuts :
    ((after (.restart .line 1) restartable).console 1).bind (·.slot) =
      some { kind := 0x13, tag := 7, body := .cut .restart 255 } := by decide +kernel

theorem test_retire_console_moved :
    ((after (.retireConsole .line 1 1) (press.setPort 5 { Port.reset with lastServed := some 1 })).port 5).lastServed = none := by decide +kernel

theorem witness_SpiTransactions :
    press.resetPin = false ∧ press.line.slot = none ∧ ofLe [0x06, 0x00] = [0x02, 0x01, 0x02, 0x0F, 0x10, (0x00 : Byte)].length ∧
    decodeRequest .line [0x02, 0x01, 0x02, 0x0F, 0x10, 0x00] = some (.enrolUnit .line 1 15 0) ∧
    ((after (.stop .line 1 0) press).line.slot).isSome = true := by decide +kernel

theorem witness_Reception :
    press.resetPin = false ∧ press.badRecs = [] ∧ (press.port 0).state = .up ∧ (press.port 1).state = .aligning ∧ (press.port 1).goodRun < 15 ∧
    (press.port 2).state = .dark ∧ framePort (.idle 1 0) = some 1 ∧ TablesOk press ∧ fittingFrame 0 1 0xFF [] = none ∧
    ((after (.idle 1 0) press).port 1).goodRun = 15 ∧ press.linkSeen[1] = false ∧ watcherOf press (.link 1) = none ∧ .link 1 ∉ press.unmatched :=
  ⟨rfl, rfl, by decide, by decide, by decide, by decide, rfl, press_tables, by decide, by decide +kernel, by decide⟩

theorem witness_Reception_link :
    let s := press.setDefn 3 (watching (.link 0) .all .halt)
    s.reports = [] ∧ TablesOk s ∧ CatchAllOk s ∧ s.linkSeen[0] = true ∧ watcherOf s (.link 0) = some 3 ∧ entryOf s 3 = none ∧
    (∀ q ∈ s.axes, q.2.lagCause = false) ∧ watcherOf press (.link 0) = none ∧ goneFrom s 0 (some 1) = true ∧ goneFrom s 0 (some 3) = false ∧
    goneFrom s 0 none = false :=
  ⟨rfl, by unfold TablesOk; decide, ⟨_, rfl, by decide⟩, by decide⟩

theorem witness_Reception_holder :
    HolderLost press 0 ∧ ¬ HolderLost press 1 ∧ (press.console 3).map (fun c => (c.port, c.present)) = some (0, false) ∧
    let s := press.setConsole 2 { consoleOn 3 .viewer with port := 5 }
    s.reports = [] ∧ TablesOk s ∧ goneFrom s 0 (some 2) = false ∧ goneFrom s 0 (some 1) = true ∧ HolderLost s 0 :=
  ⟨.inr ⟨1, by decide⟩, by unfold HolderLost; decide, by decide, by decide, by unfold TablesOk; decide, by decide, by decide, .inr ⟨1, by decide⟩⟩

theorem witness_EgressChoice :
    press.resetPin = false ∧ TablesOk (filled 5) ∧ ((filled 5).port 0).state = .up ∧ (press.port 1).state ≠ .up ∧ (∀ k, ¬ TileWaits press 0 k) ∧
    TurnOf (filled 5) 0 1 := by
  have row : ∀ {s : State} {j}, TileWaits s 0 j → ∃ q ∈ s.consoles, q.1 = j ∧ q.2.present = true ∧ q.2.slots ≠ [] :=
    fun ⟨c, h, _, hp, hs, _⟩ => ⟨_, tblGet_mem h, rfl, hp, hs⟩
  refine ⟨rfl, by unfold TablesOk; decide, by decide, by decide, fun k h => ?_, ⟨_, rfl, by decide⟩, fun j h => ?_⟩
  · obtain ⟨q, hq, -, -, hs⟩ := row h
    revert hs; revert q; decide
  · obtain ⟨q, hq, rfl, -, -⟩ := row h
    show 1 ≤ q.1
    clear h; revert q; decide

theorem witness_ResetTaken :
    press.resetPin = false ∧ (after .resetAsserted press).resetPin = true ∧ (after .resetAsserted press).reports = [] ∧ AfterReset (after .resetAsserted press) ∧
    pinEvent (.cycleEvent 0) = false :=
  ⟨rfl, rfl, rfl, by unfold AfterReset; decide +kernel, rfl⟩

theorem witness_NoticesAndMarks : TablesOk press := press_tables

theorem witness_RepliesAndPresence :
    TablesOk press ∧ consoleAt press 0 7 = some 3 ∧ (press.console 3).map (·.present) = some false ∧ consoleAt press 0 1 = some 1 ∧
    (press.console 1).map (fun c => (c.present, c.slot)) = some (true, none) :=
  ⟨press_tables, by decide⟩

theorem witness_RequestRoundTrip :
    (Instr.inch (.console 5 15) 255 255 (-2147483648) 255).wf = true ∧ (encodeRequest (.inch (.console 5 15) 255 255 (-2147483648) 255)).isSome = true := by
  decide +kernel

theorem witness_FrameRoundTrip :
    (Instr.raiseTrip 5 15 255).wf = true ∧ framePort (.raiseTrip 5 15 255) = some 5 ∧ (encodeStationFrame (.raiseTrip 5 15 255)).isSome = true ∧
    senderOf (.stop (.console 5 15) 255 3) = some (.console 5 15) := by decide +kernel

/-- The press with a command that waits. -/
def waiting (c : Instr) : State := { press with pending := [c] }

theorem witness_SpeedsKept : SpeedsOk (waiting (.cycleEvent 0)) ∧ ∃ t, step (waiting (.cycleEvent 0)) = .next t := by
  refine ⟨?_, _, rfl⟩; unfold SpeedsOk SpeedOk; decide

theorem witness_AxesKept : AxesOk (waiting (.cycleEvent 0)) ∧ ∃ t, step (waiting (.cycleEvent 0)) = .next t := by
  refine ⟨?_, _, rfl⟩; unfold AxesOk AxisOk; decide

theorem witness_TablesKept :
    TablesOk (waiting (.tripLineChange 3 true)) ∧ (waiting (.tripLineChange 3 true)).reports = [] ∧ ∃ t, step (waiting (.tripLineChange 3 true)) = .next t := by
  refine ⟨?_, rfl, _, rfl⟩; unfold TablesOk; decide

theorem witness_DemandsKept : DemandsOk (waiting (.tripLineChange 3 true)) := by unfold DemandsOk; decide

theorem witness_GrantsKept : GrantsOk (waiting (.grant .line 1 (.shaft 0))) := by
  have one : StackOk (waiting (.grant .line 1 (.shaft 0))) [1] :=
    ⟨by decide, by decide, fun r hr => .inr (by simp only [List.mem_singleton] at hr; subst hr; exact ⟨_, rfl, rfl⟩)⟩
  have zero : StackOk (waiting (.grant .line 1 (.shaft 0))) [] := ⟨by decide, by decide, by simp⟩
  refine ⟨?_, ?_⟩
  · simp only [waiting, press, List.mem_cons, List.not_mem_nil, or_false, forall_eq_or_imp, forall_eq]
    exact ⟨one, zero⟩
  · intro i; match i with
    | 0 => exact one
    | 1 => exact one
    | 2 => exact zero
    | 3 => exact zero

theorem witness_TriggersKept : TriggersOk (waiting (.cycleEvent 0)) := by
  have look : ∀ g t, (waiting (.cycleEvent 0)).trigger g = some t → g = 2 ∧ t = trigger2 := fun g t h => by
    have := tblGet_mem h; simpa [waiting, press] using this
  intro i
  refine ⟨by revert i; decide, fun g => ⟨fun h => ⟨trigger2, ?_⟩, fun ⟨t, h, hs⟩ => ?_⟩⟩
  · revert h; match i with
    | 0 => intro h; obtain rfl : g = 2 := by simpa [waiting, press] using h
           exact ⟨by decide, rfl⟩
    | 1 => intro h; simp [waiting, press] at h
    | 2 => intro h; simp [waiting, press] at h
    | 3 => intro h; simp [waiting, press] at h
  · obtain ⟨rfl, rfl⟩ := look g t h
    subst hs; decide

theorem witness_TriggerPassed_walk :
    Settled (waiting (.cycleEvent 0)) ∧ TablesOk (waiting (.cycleEvent 0)) ∧ TriggersOk (waiting (.cycleEvent 0)) ∧ SpeedsOk (waiting (.cycleEvent 0)) :=
  ⟨by unfold Settled Quiet; decide, by unfold TablesOk; decide, witness_TriggersKept, witness_SpeedsKept.1⟩

theorem witness_RoomKept : RoomOk (waiting (.transmitterFree 0)) ∧ CatchAllOk (waiting (.transmitterFree 0)) :=
  ⟨by unfold RoomOk; decide, _, rfl, by decide⟩

theorem witness_FailedUntilReset : FailedOk failedPress ∧ ∃ t, exec (.cycleEvent 0) failedPress = .next t :=
  ⟨by unfold FailedOk; decide, _, rfl⟩

end Sys2Proof.Tests
end

/-! SUPPORT. Requests on a control point (chapter 5): the answer of a request that is ready, the checks of R86, the rows of R92 and R94,
and the two statements on GRANT and YIELD assembled from them. -/
namespace Sys2Proof.Machine
open Sys2Proof

/-! ### Requests answered at once -/

/-- The reply of a ready request whose owning block answers at once and keeps who is in flight (R147, R150). -/
theorem request_answered {o : Origin} {r code tag : Nat} {least : Rights} {work : Nat → State → Took} {s t : State} {b : ReplyBody}
    (h : Ready o r least s) (hw : work r (taken o r code tag s) = some (t, .reply b))
    (ht : flightOf t r = flightOf (taken o r code tag s) r) :
    request o code tag true least work s = answer r code tag b t := by
  rw [request_ready h, hw]
  exact replyInFlight_taken h b ht

/-- Step 5 of R147: a requester below the rights a request needs is refused RIGHTS, whatever the owning block would do. -/
theorem request_lowRights {o : Origin} {r : Nat} {least has : Rights} {s : State} (hq : Quiet s) (hsend : SendsAs o r s)
    (hflight : flightOf s r = none) (hrights : rightsOf s r = some has) (hlow : Rights.rank has < Rights.rank least)
    (code tag : Nat) (work : Nat → State → Took) :
    request o code tag true least work s = answer r code tag (.refused .rights) (taken o r code tag s) := by
  obtain ⟨hreset, hnormal, hgood⟩ := hq
  have idle : (flightOf (arrived o s) r).isSome = false := by simp [flightOf_arrived, hflight]
  have inFlight : flightOf (taken o r code tag s) r = some { kind := code, tag, awaited := none } :=
    flightOf_taken code tag (by simp [hrights])
  have begun : setFlight r (some { kind := code, tag, awaited := none }) (arrived o s) = taken o r code tag s := rfl
  have good : findsBad (taken o r code tag s) [.hub] = false := findsBad_none (by simp [hgood]) _
  have normal : (taken o r code tag s).failed = false := by simp [hnormal]
  have rights : rightsOf (taken o r code tag s) r = some has := by rw [rightsOf_taken, hrights]
  rw [request, event_live hreset, settle_on (handRequest_sends (.inr hgood) hsend ..), takeFor, idle]
  simp only [Bool.false_eq_true, ↓reduceIte, begun, good, normal, Bool.false_and, Bool.not_true, rights, if_pos hlow]
  exact replyInFlight_answer _ (.refl _) inFlight

/-! ### The checks of R86 -/

/-- Writing a grant stack leaves who is in flight. -/
@[simp] theorem flightOf_setStack (cp : ControlPoint) (st : List Nat) (s : State) (r : Nat) :
    flightOf (setStack cp st s) r = flightOf s r := by
  cases cp <;> unfold setStack <;> dsimp only <;> split <;> rfl

@[simp] theorem flightOf_newHolder (cp : ControlPoint) (st : List Nat) (s : State) (r : Nat) :
    flightOf (newHolder cp st s) r = flightOf s r := by
  simp [newHolder]

theorem onPoint_outOfRange {cp : ControlPoint} (h : cpInRange cp = false) (k : List Nat → State → Took) (s : State) :
    onPoint cp k s = refuse .range s := by
  simp [onPoint, h]

theorem onPoint_inRange {cp : ControlPoint} {s : State} (h : cpInRange cp = true) (hb : s.badRecs = []) (k : List Nat → State → Took) :
    onPoint cp k s = (stackOf s cp).elim (refuse .absent s) (k · s) := by
  simp only [onPoint, h, needs_good hb, Bool.not_true, Bool.false_eq_true, ↓reduceIte]
  cases stackOf s cp <;> rfl

section PointRequests
variable {o : Origin} {r tag : Nat} {cp : ControlPoint} {s : State} {least : Rights}

theorem pointRequest_outOfRange (h : Ready o r least s) (hcp : cpInRange cp = false) (code : Nat)
    (take : Nat → List Nat → State → Took) :
    request o code tag true least (fun k => onPoint cp (take k)) s =
      answer r code tag (.refused .range) (taken o r code tag s) :=
  request_answered h (onPoint_outOfRange hcp ..) rfl

theorem pointRequest_absent (h : Ready o r least s) (hcp : cpInRange cp = true) (hst : stackOf s cp = none) (code : Nat)
    (take : Nat → List Nat → State → Took) :
    request o code tag true least (fun k => onPoint cp (take k)) s =
      answer r code tag (.refused .absent) (taken o r code tag s) := by
  refine request_answered h ?_ rfl
  rw [onPoint_inRange hcp (by simp [h.badRecs]), stackOf_party (taken_party ..), hst]
  rfl

/-- A request on a point that exists is answered by the row of its table that the stack and the sender select. -/
theorem pointRequest_row {st : List Nat} {code : Nat} {take : Nat → List Nat → State → Took} {t : State} {b : ReplyBody}
    (h : Ready o r least s) (hcp : cpInRange cp = true) (hst : stackOf s cp = some st)
    (hrow : take r st (taken o r code tag s) = some (t, .reply b))
    (ht : flightOf t r = flightOf (taken o r code tag s) r) :
    request o code tag true least (fun k => onPoint cp (take k)) s = answer r code tag b t := by
  refine request_answered h ?_ ht
  rw [onPoint_inRange hcp (by simp [h.badRecs]), stackOf_party (taken_party ..), hst]
  exact hrow

end PointRequests

/-! ### Grant stacks -/

/-- The requester pushed last is the holder (R91). -/
@[simp] theorem holderOf_push (st : List Nat) (r : Nat) : holderOf (st ++ [r]) = some r := by
  simp [holderOf]

/-- Taking the pushed requester out again gives the stack back, and with it the preempted holder (R92). -/
theorem filter_push {st : List Nat} {r : Nat} (h : r ∉ st) : (st ++ [r]).filter (· != r) = st := by
  have others : ∀ a ∈ st, (a != r) = true := fun a ha => bne_iff_ne.2 (ne_of_mem_of_not_mem ha h)
  rw [List.filter_append, List.filter_eq_self.2 others]
  simp

theorem holderOf_mem {st : List Nat} {r : Nat} (h : holderOf st = some r) : r ∈ st := List.mem_of_getLast? h

/-- A stack with a requester in it has a holder (R91). -/
theorem holderOf_of_mem {st : List Nat} {r : Nat} (h : r ∈ st) : ∃ k, holderOf st = some k :=
  ⟨_, List.getLast?_eq_getLast_of_ne_nil (List.ne_nil_of_mem h)⟩

/-- The taking of a request changes nobody's rank (R93). -/
theorem rankOf_taken (o : Origin) (r code tag q : Nat) (s : State) : rankOf (taken o r code tag s) q = rightsRank s q := by
  rw [rankOf, rightsOf_taken, rightsRank]

/-! ### The rows of GRANT (R92) -/

section GrantRows
variable {cp : ControlPoint} {r k : Nat} {st : List Nat} {s : State}

theorem takeGrant_holder (hh : holderOf st = some r) : takeGrant cp r st s = some (s, .reply (.noted .plain)) := by
  simp [takeGrant, hh, accept]

theorem takeGrant_waiting (hh : holderOf st ≠ some r) (hr : r ∈ st) :
    takeGrant cp r st s = some (s, .reply (.refused .duplicate)) := by
  obtain ⟨k, hk⟩ := holderOf_of_mem hr
  have other : k ≠ r := fun e => hh (e ▸ hk)
  simp [takeGrant, hk, other, hr, refuse]

theorem takeGrant_empty : takeGrant cp r [] s = some (newHolder cp [r] s, .reply (.done .plain)) := rfl

/-- Rows 4 to 6: a newcomer to a held point is measured against the holder's rank, then against the room of the stack. -/
theorem takeGrant_newcomer (hh : holderOf st = some k) (hne : k ≠ r) (hr : r ∉ st) :
    takeGrant cp r st s =
      if rankOf s r ≤ rankOf s k then refuse .held s
      else if 4 ≤ st.length then refuse .deep s
      else accept false .plain (newHolder cp (st ++ [r]) s) := by
  simp [takeGrant, hh, hne, hr]

end GrantRows

/-! ### The rows of YIELD (R94) -/

section YieldRows
variable {cp : ControlPoint} {r : Nat} {st : List Nat} {s : State}

theorem takeYield_holder (hh : holderOf st = some r) :
    takeYield cp r st s = some (newHolder cp st.dropLast s, .reply (.done .plain)) := by
  simp [takeYield, hh, accept]

theorem takeYield_waiting (hh : holderOf st ≠ some r) (hr : r ∈ st) :
    takeYield cp r st s = some (setStack cp (st.filter (· != r)) s, .reply (.done .plain)) := by
  simp [takeYield, hh, hr, accept]

theorem takeYield_outside (hr : r ∉ st) : takeYield cp r st s = some (s, .reply (.refused .absent)) := by
  have hh : holderOf st ≠ some r := fun e => hr (holderOf_mem e)
  simp [takeYield, hh, hr, refuse]

end YieldRows

/-! ### The two tables -/

theorem exec_grant (o : Origin) (tag : Nat) (cp : ControlPoint) (s : State) :
    exec (.grant o tag cp) s = .next (request o 0x20 tag true .operator (fun r => onPoint cp (takeGrant cp r)) s) := rfl

theorem exec_yield (o : Origin) (tag : Nat) (cp : ControlPoint) (s : State) :
    exec (.yield o tag cp) s = .next (request o 0x21 tag true .operator (fun r => onPoint cp (takeYield cp r)) s) := rfl

/-- Settles O30: the refusal of a VIEWER, the checks of R86, and then the rows of R92 in their order. -/
theorem grantTable : Obligations.GrantTable := by
  refine ⟨fun st r => ⟨holderOf_push st r, fun hr => by rw [filter_push hr]⟩, ?_, ?_⟩
  · intro o r tag cp has s hq hsend hflight hrights hviewer
    subst hviewer
    rw [exec_grant, request_lowRights hq hsend hflight hrights (by decide)]
  · intro o r tag cp s hready
    simp only [exec_grant, Host.Outcome.next.injEq]
    refine ⟨(pointRequest_outOfRange hready · ..), (pointRequest_absent hready · · ..),
      fun st hcp hst => ⟨?holder, ?waiting, ?empty, ?newcomer⟩⟩
    case holder => exact fun hh => pointRequest_row hready hcp hst (takeGrant_holder hh) rfl
    case waiting => exact fun hh hr => pointRequest_row hready hcp hst (takeGrant_waiting hh hr) rfl
    case empty =>
      rintro rfl
      exact pointRequest_row hready hcp hst takeGrant_empty (flightOf_newHolder ..)
    case newcomer =>
      intro h hh hne hr
      have row := takeGrant_newcomer (cp := cp) (s := taken o r 0x20 tag s) hh hne hr
      simp only [rankOf_taken] at row
      refine ⟨fun hrank => ?_, fun hrank hfull => ?_, fun hrank hroom => ?_⟩
      · rw [if_pos hrank] at row
        exact pointRequest_row hready hcp hst row rfl
      · rw [if_neg (by omega), if_pos hfull] at row
        exact pointRequest_row hready hcp hst row rfl
      · rw [if_neg (by omega), if_neg (by omega)] at row
        exact pointRequest_row hready hcp hst row (flightOf_newHolder ..)

/-- Settles O31: the checks of R86, and then the rows of R94. -/
theorem yieldTable : Obligations.YieldTable := by
  intro o r tag cp s hready
  simp only [exec_yield, Host.Outcome.next.injEq]
  refine ⟨(pointRequest_outOfRange hready · ..), (pointRequest_absent hready · · ..),
    fun st hcp hst => ⟨?holder, ?waiting, ?outside⟩⟩
  case holder => exact fun hh => pointRequest_row hready hcp hst (takeYield_holder hh) (flightOf_newHolder ..)
  case waiting => exact fun hh hr => pointRequest_row hready hcp hst (takeYield_waiting hh hr) (flightOf_setStack ..)
  case outside => exact fun hr => pointRequest_row hready hcp hst (takeYield_outside hr) rfl

end Sys2Proof.Machine

/-! SUPPORT. Watches (chapter 8): a console that sends is PRESENT, what an entry that joins a watch set leaves of the set, the rows of
R134 and R135, and the statement on WATCH and UNWATCH assembled from them. -/
namespace Sys2Proof.Machine
open Sys2Proof

/-! ### Console records -/

/-- Two writes at one id leave the later one. -/
theorem tblSet_tblSet {α : Type} (t : Tbl α) (k : Nat) (v w : α) : tblSet (tblSet t k v) k w = tblSet t k w := by
  induction t with
  | nil => simp [tblSet]
  | cons p t ih =>
    obtain ⟨j, u⟩ := p
    rcases lt_trichotomy k j with hlt | rfl | hgt
    · simp [tblSet, hlt]
    · simp [tblSet]
    · simp [tblSet, hgt.not_gt, hgt.ne', ih]

@[simp] theorem State.setConsole_setConsole (s : State) (k : Nat) (c d : Console) :
    (s.setConsole k c).setConsole k d = s.setConsole k d := by
  simp [State.setConsole, tblSet_tblSet]

/-- A watch set is no part of who is in flight. -/
theorem flightOf_setWatches {s : State} {k : Nat} {c : Console} (h : s.console k = some c) (ws : List Watch) (r : Nat) :
    flightOf (s.setConsole k { c with watches := ws }) r = flightOf s r :=
  (SameParties.setConsole (d := { c with watches := ws }) h rfl).flightOf r

/-! ### A sender is PRESENT -/

/-- Flags, reply slots and watch sets have no part in presence. -/
theorem SameParties.present {s t : State} {k : Nat} {c d : Console} (h : SameParties s t) (hs : s.console k = some c)
    (ht : t.console k = some d) : d.present = c.present := by
  have cores : d.core = c.core := by simpa [hs, ht] using h.cores k
  calc d.present = d.core.present := rfl
    _ = c.core.present := by rw [cores]
    _ = c.present := rfl

theorem Ready.sends {o : Origin} {r : Nat} {least : Rights} {s : State} (h : Ready o r least s) : SendsAs o r s := h.2.1

/-- The presence report leaves its console PRESENT (R145). -/
theorem present_consolePresent {k : Nat} {s : State} {c : Console} (h : (consolePresent k s).console k = some c) :
    c.present = true := by
  unfold consolePresent at h
  split at h
  · next d hd =>
    split at h
    · next hpresent => rwa [← Option.some.inj (hd.symm.trans h)]
    · have marked : SameParties (s.setConsole k { d with present := true, flags := .all })
          (d.watches.foldl (fun u w => markPending k w.axis u)
            (makeNoticeEntry k (s.setConsole k { d with present := true, flags := .all }))) :=
        (makeNoticeEntry_same ..).trans (SameParties.foldl (fun u (w : Watch) => markPending_same k w.axis u) _ _)
      exact marked.present (State.console_setConsole_self ..) h
  · next hd => simp [hd] at h

/-- The record of a console with a request in flight is PRESENT, for its frame has brought it back (R145, R165). -/
theorem present_taken {p : PortId} {st r code tag : Nat} {s : State} {c : Console} (hsend : SendsAs (.console p st) r s)
    (h : (taken (.console p st) r code tag s).console r = some c) : c.present = true := by
  obtain ⟨hr, -, -, hat⟩ := hsend
  simp only [taken, setFlight, hr, ↓reduceIte, arrived, hat, State.modConsole] at h
  split at h
  · next d hd =>
    rw [State.console_setConsole_self] at h
    obtain rfl := Option.some.inj h
    exact present_consolePresent (c := d) hd
  · next hd => simp [hd] at h

/-! ### An entry joins a watch set -/

theorem updWatch_cons (x : Nat) (f : Watch → Watch) (w : Watch) (ws : List Watch) :
    updWatch x f (w :: ws) = (if w.axis = x then f w else w) :: updWatch x f ws := rfl

theorem updWatch_absent {x : Nat} {ws : List Watch} (h : ∀ w ∈ ws, w.axis ≠ x) (f : Watch → Watch) : updWatch x f ws = ws :=
  (List.map_congr_left fun w hw => if_neg (h w hw)).trans ws.map_id

/-- The new entry stands in the set, not pending until it is marked. -/
theorem mem_joinWatch (x : Nat) (ws : List Watch) : { freshWatch x with pending := false } ∈ joinWatch x ws := by
  induction ws with
  | nil => simp [joinWatch, freshWatch]
  | cons w ws ih =>
    unfold joinWatch
    split
    · simp [freshWatch]
    · exact List.mem_cons_of_mem _ ih

/-- A watch set with a new entry for axis `x`, joined and then marked (R134). -/
def watchesWith (x : Nat) (ws : List Watch) : List Watch := updWatch x (fun w => { w with pending := true }) (joinWatch x ws)

/-- The new entry goes between the entries below its axis and the others, which are above it in an ascending set (R133). -/
theorem watchesWith_split {x : Nat} {ws : List Watch} (hnew : ∀ w ∈ ws, w.axis ≠ x) :
    ∃ below above, ws = below ++ above ∧ watchesWith x ws = below ++ freshWatch x :: above ∧ (∀ w ∈ below, w.axis < x) ∧
      (ws.Pairwise (fun v w => v.axis < w.axis) → ∀ w ∈ above, x < w.axis) := by
  induction ws with
  | nil => exact ⟨[], [], rfl, by simp [watchesWith, joinWatch, updWatch, freshWatch], by simp, by simp⟩
  | cons w ws ih =>
    by_cases hlt : x < w.axis
    · refine ⟨[], w :: ws, rfl, ?_, by simp, fun hasc v hv => ?_⟩
      · have others := updWatch_absent hnew (fun w => { w with pending := true })
        rw [watchesWith, joinWatch, if_pos hlt, updWatch_cons, others, if_pos rfl]
        rfl
      · rcases List.mem_cons.1 hv with rfl | hv
        · exact hlt
        · exact hlt.trans (List.rel_of_pairwise_cons hasc hv)
    · obtain ⟨hw, hws⟩ := List.forall_mem_cons.1 hnew
      obtain ⟨below, above, hsplit, hjoin, hbelow, habove⟩ := ih hws
      refine ⟨w :: below, above, by rw [hsplit]; rfl, ?_, List.forall_mem_cons.2 ⟨by omega, hbelow⟩,
        fun hasc => habove hasc.of_cons⟩
      rw [List.cons_append, ← hjoin]
      rw [watchesWith, joinWatch, if_neg hlt, updWatch_cons, if_neg hw]
      rfl

section Joined
variable {x : Nat} {ws : List Watch}

theorem watchesWith_others (hnew : ∀ w ∈ ws, w.axis ≠ x) : (watchesWith x ws).filter (fun w => w.axis != x) = ws := by
  obtain ⟨below, above, rfl, hjoin, -, -⟩ := watchesWith_split hnew
  rw [hjoin, List.filter_append, List.filter_cons_of_neg (by simp [freshWatch]), ← List.filter_append]
  exact List.filter_eq_self.2 (fun w hw => bne_iff_ne.2 (hnew w hw))

theorem watchesWith_own (hnew : ∀ w ∈ ws, w.axis ≠ x) : (watchesWith x ws).filter (fun w => w.axis == x) = [freshWatch x] := by
  obtain ⟨below, above, rfl, hjoin, -, -⟩ := watchesWith_split hnew
  obtain ⟨hbelow, habove⟩ := List.forall_mem_append.1 hnew
  rw [hjoin, List.filter_append, List.filter_cons_of_pos (by simp [freshWatch]),
    List.filter_eq_nil_iff.2 (by simpa using hbelow), List.filter_eq_nil_iff.2 (by simpa using habove)]
  rfl

theorem watchesWith_ascending (hnew : ∀ w ∈ ws, w.axis ≠ x) (hasc : ws.Pairwise (fun v w => v.axis < w.axis)) :
    (watchesWith x ws).Pairwise (fun v w => v.axis < w.axis) := by
  obtain ⟨below, above, rfl, hjoin, hbelow, habove⟩ := watchesWith_split hnew
  obtain ⟨hb, ha, hba⟩ := List.pairwise_append.1 hasc
  rw [hjoin, List.pairwise_append, List.pairwise_cons]
  exact ⟨hb, ⟨habove hasc, ha⟩, fun v hv => List.forall_mem_cons.2 ⟨hbelow v hv, hba v hv⟩⟩

end Joined

/-! ### The rows of WATCH (R134) and UNWATCH (R135) -/

/-- A PRESENT console's new entry is made pending, at the tail of its port's pending queue (R134, R136). -/
theorem markPending_joinWatch {r x : Nat} {c : Console} (hpresent : c.present = true) (s : State) :
    markPending r x (s.setConsole r { c with watches := joinWatch x c.watches }) =
      (s.setConsole r { c with watches := watchesWith x c.watches }).modPort c.port
        (fun q => { q with valueQ := q.valueQ ++ [(r, x)] }) := by
  have joined : (joinWatch x c.watches).any (fun w => w.axis == x && !w.pending) = true :=
    List.any_eq_true.2 ⟨_, mem_joinWatch x c.watches, by simp [freshWatch]⟩
  simp [markPending, hpresent, joined, watchesWith]

section WatchRows
variable {x r : Nat} {c : Console} {s : State}

theorem takeWatch_outOfRange (hc : s.console r = some c) (hx : 63 < x) : takeWatch x r s = refuse .range s := by
  simp [takeWatch, hc, hx]

theorem takeWatch_absent (hc : s.console r = some c) (hx : x ≤ 63) (hax : s.axis x = none) :
    takeWatch x r s = refuse .absent s := by
  simp [takeWatch, hc, hx.not_gt, hax]

theorem takeWatch_watched (hc : s.console r = some c) (hx : x ≤ 63) (hax : (s.axis x).isSome = true)
    (hin : ∃ w ∈ c.watches, w.axis = x) : takeWatch x r s = accept true .plain s := by
  have watched : c.watches.any (fun w => w.axis == x) = true := by simpa using hin
  simp [takeWatch, hc, hx.not_gt, Option.isSome_iff_ne_none.1 hax, watched]

/-- Rows 4 and 5: a new entry finds its place, or the set is full. -/
theorem takeWatch_new (hc : s.console r = some c) (hx : x ≤ 63) (hax : (s.axis x).isSome = true)
    (hnew : ∀ w ∈ c.watches, w.axis ≠ x) :
    takeWatch x r s =
      if 8 ≤ c.watches.length then refuse .full s
      else accept false .plain (markPending r x (s.setConsole r { c with watches := joinWatch x c.watches })) := by
  have unwatched : c.watches.any (fun w => w.axis == x) = false := by simpa using hnew
  simp [takeWatch, hc, hx.not_gt, Option.isSome_iff_ne_none.1 hax, unwatched]

theorem takeUnwatch_outOfRange (hc : s.console r = some c) (hx : 63 < x) : takeUnwatch x r s = refuse .range s := by
  simp [takeUnwatch, hc, hx]

theorem takeUnwatch_absent (hc : s.console r = some c) (hx : x ≤ 63) (hnew : ∀ w ∈ c.watches, w.axis ≠ x) :
    takeUnwatch x r s = refuse .absent s := by
  have unwatched : c.watches.any (fun w => w.axis == x) = false := by simpa using hnew
  simp [takeUnwatch, hc, hx.not_gt, unwatched]

theorem takeUnwatch_watched (hc : s.console r = some c) (hx : x ≤ 63) (hin : ∃ w ∈ c.watches, w.axis = x) :
    takeUnwatch x r s = accept false .plain (dropWatch x r c s) := by
  have watched : c.watches.any (fun w => w.axis == x) = true := by simpa using hin
  simp [takeUnwatch, hc, hx.not_gt, watched]

end WatchRows

/-! ### The requests -/

/-- A request for consoles alone: the line computer, which has no watch set, is refused RIGHTS; a console's words are read before
the watch unit's work (R134, R135, R174). -/
def consoleWork (rs : Nat → List Rec) (take : Nat → State → Took) (r : Nat) (s : State) : Took :=
  if r = 0 then refuse .rights s else needs (rs r) (take r) s

theorem exec_watch (o : Origin) (tag x : Nat) (s : State) :
    exec (.watch o tag x) s = .next (request o 0x30 tag true .viewer
      (consoleWork (fun r => [.console r, .watchSet r, .axis x]) (takeWatch x)) s) := rfl

theorem exec_unwatch (o : Origin) (tag x : Nat) (s : State) :
    exec (.unwatch o tag x) s = .next (request o 0x31 tag true .viewer
      (consoleWork (fun r => [.console r, .watchSet r]) (takeUnwatch x)) s) := rfl

section WatchRequests
variable {rs : Nat → List Rec} {take : Nat → State → Took} {code : Nat} {s : State}

theorem lineRequest_refused (h : Ready .line 0 .viewer s) (tag : Nat) :
    request .line code tag true .viewer (consoleWork rs take) s = answer 0 code tag (.refused .rights) (taken .line 0 code tag s) :=
  request_answered h rfl rfl

/-- A console's request is answered by the row its watch set selects. -/
theorem consoleRequest_row {p : PortId} {st r tag : Nat} {t : State} {b : ReplyBody} (h : Ready (.console p st) r .viewer s)
    (hrow : take r (taken (.console p st) r code tag s) = some (t, .reply b))
    (ht : flightOf t r = flightOf (taken (.console p st) r code tag s) r) :
    request (.console p st) code tag true .viewer (consoleWork rs take) s = answer r code tag b t := by
  obtain ⟨hr, -⟩ := h.sends
  refine request_answered h ?_ ht
  rw [consoleWork, if_neg hr, needs_party (taken_party ..) h.badRecs, hrow]

end WatchRequests

/-- Settles O38: the refusal of the line computer, then the rows of R134 and of R135 in their order. -/
theorem watchRequests : Obligations.WatchRequests := by
  simp only [Obligations.WatchRequests, exec_watch, exec_unwatch, Host.Outcome.next.injEq]
  refine ⟨fun tag x s h => ⟨lineRequest_refused h tag, lineRequest_refused h tag⟩,
    fun p st r tag x c s h hc => ⟨?range, ?absent, ?watched, ?full, ?joined⟩,
    fun p st r tag x c s h hc => ⟨?unwatchRange, ?unwatched, ?dropped⟩⟩
  case range => exact fun hx => consoleRequest_row h (takeWatch_outOfRange hc hx) rfl
  case absent => exact fun hx hax => consoleRequest_row h (takeWatch_absent hc hx (by simpa using hax)) rfl
  case watched => exact fun hx hax hin => consoleRequest_row h (takeWatch_watched hc hx (by simpa using hax) hin) rfl
  case full =>
    intro hx hax hnew hfull
    have row := takeWatch_new hc hx (by simpa using hax) hnew
    rw [if_pos hfull] at row
    exact consoleRequest_row h row rfl
  case joined =>
    intro hx hax hnew hroom
    have row := takeWatch_new hc hx (by simpa using hax) hnew
    rw [if_neg (by omega), markPending_joinWatch (present_taken h.sends hc)] at row
    exact ⟨watchesWith x c.watches, watchesWith_others hnew, watchesWith_own hnew, watchesWith_ascending hnew,
      consoleRequest_row h row (flightOf_setWatches hc ..)⟩
  case unwatchRange => exact fun hx => consoleRequest_row h (takeUnwatch_outOfRange hc hx) rfl
  case unwatched => exact fun hx hnew => consoleRequest_row h (takeUnwatch_absent hc hx hnew) rfl
  case dropped => exact fun hx hin => consoleRequest_row h (takeUnwatch_watched hc hx hin) (flightOf_setWatches hc ..)

end Sys2Proof.Machine

/-! SUPPORT. Byte order (chapter 12, R178): the encoder `leBytes` and the reader `ofLe` take a field one byte at a time, so each law of
theirs is an induction on the field's width; a signed field is an unsigned one of the value modulo 256^n. -/
namespace Sys2Proof.Machine
open Sys2Proof

/-! ### Unsigned fields -/

@[simp] theorem length_leBytes (n v : Nat) : (leBytes n v).length = n := by
  induction n generalizing v with
  | zero => rfl
  | succ n ih => simp [leBytes, ih]

/-- A field keeps of a value what its width can hold. -/
@[simp] theorem ofLe_leBytes (n v : Nat) : ofLe (leBytes n v) = v % 256 ^ n := by
  induction n generalizing v with
  | zero => simp [leBytes, ofLe, Nat.mod_one]
  | succ n ih =>
    calc ofLe (leBytes (n + 1) v) = v % 256 + 256 * (v / 256 % 256 ^ n) := by simp [leBytes, ofLe, ih]
      _ = v % 256 ^ (n + 1) := by rw [Nat.pow_succ', Nat.mod_mul]

/-- Byte `i` has weight 256^i: least significant byte first. -/
theorem getElem?_leBytes {n i : Nat} (v : Nat) (hi : i < n) : (leBytes n v)[i]? = some (BitVec.ofNat 8 (v / 256 ^ i)) := by
  induction n generalizing v i with
  | zero => exact absurd hi (Nat.not_lt_zero i)
  | succ n ih =>
    cases i with
    | zero => simp [leBytes]
    | succ i => rw [leBytes, List.getElem?_cons_succ, ih _ (Nat.lt_of_succ_lt_succ hi), Nat.div_div_eq_div_mul, Nat.pow_succ']

/-! ### Signed fields -/

/-- The bytes of a signed field stand for its value modulo 256^n. -/
theorem ofLe_leSigned (n : Nat) (v : Int) : (ofLe (leSigned n v) : Int) = v % 256 ^ n := by
  have hpos : (0 : Int) < 256 ^ n := by positivity
  have hlow := Int.emod_nonneg v hpos.ne'
  simp [leSigned, Int.toNat_of_nonneg hlow]

/-- The two's complement reading undoes the reduction modulo 2^32 on the range of a 4-byte field. -/
theorem signed32_of_emod {u : Nat} {v : Int} (hu : (u : Int) = v % 4294967296) (hmin : -2147483648 ≤ v) (hmax : v ≤ 2147483647) :
    signed32 u = v := by
  unfold signed32
  split
  case isTrue hlow => omega
  case isFalse hhigh => omega

/-- A signed field of 4 bytes is read back whole. -/
theorem signed32_ofLe_leSigned {v : Int} (hmin : -2147483648 ≤ v) (hmax : v ≤ 2147483647) : signed32 (ofLe (leSigned 4 v)) = v :=
  signed32_of_emod (ofLe_leSigned 4 v) hmin hmax

/-- Settles O50: the three laws of an unsigned field, then the signed field by its definition and read back, then the boolean bytes. -/
theorem byteOrder : Obligations.ByteOrder := by
  refine ⟨fun n v => ⟨length_leBytes n v, ofLe_leBytes n v, fun _ hi => getElem?_leBytes v hi⟩, fun n v => ?signed,
    fun _ hmin hmax => signed32_ofLe_leSigned hmin hmax, rfl, rfl⟩
  case signed => rw [leSigned, Nat.cast_pow, Nat.cast_ofNat]

end Sys2Proof.Machine
